-- ==== Sys2Proof/Word.lean ====
section
/-! DEFINITION. The word types of the controller (00_scope.md R7: all values are unsigned; bit 0 is the
least significant bit) and the two plain index types, the stream ordinal and the transaction width. -/

namespace Sys2Proof

/-- One byte of guest memory, of a stream's internal ring, or of a byte lane (20_memory.md R71). -/
abbrev Byte := BitVec 8

/-- The value of a register (10_state.md R22: at most 4 bytes), zero-extended to 32 bits. -/
abbrev Word := BitVec 32

/-- A response of the codec, a 64-bit guest physical address, or an operation word (R101, R107, R108). -/
abbrev Quad := BitVec 64

/-- A stream ordinal `n`, `0 <= n < N` (00_scope.md R5, R6, decision D3). DESIGN CHOICE: N is 8, from the defaults of
`N_IN` and `N_OUT`, which 92_eei_decisions.md lists as open; every statement holds for these defaults only (log
entry 4). -/
abbrev Stream := Fin 8

/-- The width of a bus transaction: 1, 2, 3 or 4 bytes (20_memory.md R73, 30_encoding.md R100). -/
inductive Width
  | w1
  | w2
  | w3
  | w4
  deriving DecidableEq, Repr

/-- The number of bytes of a transaction width. -/
def Width.bytes : Width → Nat
  | .w1 => 1
  | .w2 => 2
  | .w3 => 3
  | .w4 => 4

end Sys2Proof
end

