-- ==== Sys2Proof/Config.lean ====
section
/-! DEFINITION. The implementation parameters of 00_scope.md R5. The fixed ones are constants, and so are
N_IN, N_OUT and WINDOW, which 92_eei_decisions.md ('Open parameters in one list') names among the open ones:
the model fixes these three at their defaults, DESIGN CHOICE (log entry 4). The other OPEN ones form the record
`Config`, which the state carries and no operation changes, so that a statement about every state quantifies
over them. The answers of the external agents that the spec
leaves to an oracle (20_memory.md R92) are opaque constants: nothing evaluates them. -/

namespace Sys2Proof

/-- `N_IN`: the number of input (capture) streams, ordinals `0 .. 3` (R5, R6). DESIGN CHOICE: open in
92_eei_decisions.md, fixed here at the default of R5; every statement holds for this default only (log entry 4,
unsafe for a controller with another value). -/
def nIn : Nat := 4

/-- `N_OUT`: the number of output (playback) streams, ordinals `4 .. 7` (R5, R6). DESIGN CHOICE: open in
92_eei_decisions.md, fixed here at the default of R5; every statement holds for this default only (log entry 4,
unsafe for a controller with another value). -/
def nOut : Nat := 4

/-- `N = N_IN + N_OUT` (R5). DESIGN CHOICE: 8, from the defaults of the two open parameters; every statement holds
for this number of streams only (log entry 4). -/
def nStreams : Nat := nIn + nOut

/-- `WINDOW`: the size of the MMIO window in bytes (R5). DESIGN CHOICE: open in 92_eei_decisions.md, fixed here at
the default of R5; every statement holds for this default only (log entry 4, unsafe for another size). -/
def window : Nat := 0x4000

/-- `WALCLK_HZ`: the rate of the wall clock (R5). -/
def walclkHz : Nat := 24000000

/-- `BDLE_BYTES`: the size of one buffer descriptor (R5). -/
def bdleBytes : Nat := 16

/-- The OPEN parameters of 00_scope.md R5. No operation writes this record. -/
structure Config where
  /-- `UNSOL_BIT`: the bit of a response that says "unsolicited" (R5, R107). -/
  unsolBit : Fin 64
  /-- `CODEC_MASK`: the state-change bits set when the controller leaves reset (R5, R157). -/
  codecMask : BitVec 16
  /-- `TIMER_HZ`: the rate of the time base `now`; at least 1 (R5, R301). -/
  timerHz : Nat
  /-- `RING_BYTES[n]`: the capacity of each stream's internal ring (R5, R60). -/
  ringBytes : Vector Nat 8
  /-- `MAX_BDLE_BYTES`: the largest length a start accepts in one entry (R5, R263). -/
  maxBdleBytes : Nat
  /-- `splitPeriod` as data: the loop count of a group of the given byte count. A byte count that is
  not listed, or whose listed count breaks the law of R267, has loop count 1. -/
  splits : List (Nat × Nat)
  /-- `INLINE_DRAIN`: a kicked drain runs inside the write that kicks it (R5, R87). -/
  inlineDrain : Bool
  /-- `SAVE_RING`: a save carries the internal rings (R5, R308). -/
  saveRing : Bool
  /-- `HOLD_ON_PENDING_IRQ`: a tick is skipped while a queued interrupt is unacknowledged (R5, R273). -/
  holdOnPendingIrq : Bool
  deriving DecidableEq, Repr

/-- The defaults of 00_scope.md R5, with the `RING_BYTES` that 95_test_vectors.md uses. -/
def Config.default : Config where
  unsolBit := 36
  codecMask := 0x0001
  timerHz := 1000000000
  ringBytes := #v[65536, 65536, 65536, 65536, 65536, 65536, 65536, 65536]
  maxBdleBytes := 0xFFFFFFFF
  splits := []
  inlineDrain := false
  saveRing := true
  holdOnPendingIrq := false

/-- FREE VALUE (20_memory.md R92 b, U9): the answer of the `k`-th codec lookup of a run, for the
command looked up; `none` is `NotFound`. -/
opaque Config.codecAnswer : Nat → Word → Option Quad

/-- FREE VALUE (20_memory.md R92 c, U10): whether the sink accepts the `k`-th control call of a run. -/
opaque Config.sinkAnswer : Nat → Bool

/-- FREE VALUE (45_host_ops.md R303, U10): the `k`-th byte that the sink of an input stream produces. -/
opaque Config.captureByte : Nat → Byte

end Sys2Proof
end

