-- ==== Sys2Proof/Machine/Registers.lean ====
section
/-! DEFINITION. The register descriptors of 10_state.md R22 to R26 and the decoding of one window
offset, 30_encoding.md R103. Every number of the tables of R23, R24 and R25 stands here, once. -/

namespace Sys2Proof

/-- The global registers, in the order of 10_state.md R23. -/
inductive GReg
  | gcap | vmin | vmaj | outpay | inpay | gctl | wakeen | statests | gsts | intctl | intsts | walclk
  | corblbase | corbubase | corbwp | corbrp | corbctl | corbsts | corbsize
  | rirblbase | rirbubase | rirbwp | rintcnt | rirbctl | rirbsts | rirbsize
  deriving DecidableEq, Repr

/-- The registers of one stream, in the order of 10_state.md R24. -/
inductive SReg
  | ctl | sts | lpib | cbl | lvi | fifow | fifos | fmt | bdpl | bdpu
  deriving DecidableEq, Repr

/-- A register: a global one, or one of a stream. -/
inductive Reg
  | glob (r : GReg)
  | str (k : SReg) (n : Stream)
  deriving DecidableEq, Repr

/-- The read handler ids of 10_state.md R22. -/
inductive RdHandler
  | plain | intsts | walclk
  deriving DecidableEq, Repr

/-- The write handler ids of 10_state.md R22; a stream register's id carries its ordinal. -/
inductive WrHandler
  | plain | ro | w1c | gctl | intctl | wakeen | statests
  | corbwp | corbrp | corbctl | corbsize | rirbwp | rirbctl | rirbsts | rirbsize
  | sdctl (n : Stream) | sdsts (n : Stream) | sdguard (n : Stream)
  deriving DecidableEq, Repr

/-- The register descriptor of 10_state.md R22. -/
structure Desc where
  id : Nat
  off : Nat
  width : Nat
  rmask : Word
  wmask : Word
  rd : RdHandler
  wr : WrHandler
  runOk : Bool
  reset : Word
  deriving DecidableEq, Repr

/-- `isInput(n)`: the direction follows from the ordinal (00_scope.md R6). -/
def isInput (n : Stream) : Bool := decide (n.val < nIn)

/-- The mask of INTCTL and INTSTS with `n` streams, `0xC0000000 | (2^n - 1)`: GIE or GIS, CIE or CIS, and one bit
for each stream (10_state.md R23, R34, R35). -/
def intMask (n : Nat) : Word := 0xC0000000 ||| BitVec.ofNat 32 (2 ^ n - 1)

/-- The reset value of GCAP, `(N_OUT << 12) | (N_IN << 8) | 0x0001` (10_state.md R23, R27). -/
def gcapReset (ins outs : Nat) : Word := BitVec.ofNat 32 outs <<< 12 ||| BitVec.ofNat 32 ins <<< 8 ||| 0x0001

/-- The global register table, 10_state.md R23, of a controller with `ins` input and `outs` output streams: the two
masks and the reset value that R23 gives for every `N` depend on them. -/
def GReg.descFor (ins outs : Nat) : GReg → Desc
  | .gcap      => ⟨0,  0x00, 2, 0xFFFF, 0x0000, .plain, .ro, true, gcapReset ins outs⟩
  | .vmin      => ⟨1,  0x02, 1, 0xFF, 0x00, .plain, .ro, true, 0x00⟩
  | .vmaj      => ⟨2,  0x03, 1, 0xFF, 0x00, .plain, .ro, true, 0x01⟩
  | .outpay    => ⟨3,  0x04, 2, 0xFFFF, 0x0000, .plain, .ro, true, 0x003C⟩
  | .inpay     => ⟨4,  0x06, 2, 0xFFFF, 0x0000, .plain, .ro, true, 0x001D⟩
  | .gctl      => ⟨5,  0x08, 4, 0x00000103, 0x00000103, .plain, .gctl, true, 0x00000000⟩
  | .wakeen    => ⟨6,  0x0C, 2, 0x7FFF, 0x7FFF, .plain, .wakeen, true, 0x0000⟩
  | .statests  => ⟨7,  0x0E, 2, 0x7FFF, 0x7FFF, .plain, .statests, true, 0x0000⟩
  | .gsts      => ⟨8,  0x10, 2, 0x0002, 0x0002, .plain, .w1c, true, 0x0000⟩
  | .intctl    => ⟨9,  0x20, 4, intMask (ins + outs), intMask (ins + outs), .plain, .intctl, true, 0x00000000⟩
  | .intsts    => ⟨10, 0x24, 4, intMask (ins + outs), 0x00000000, .intsts, .ro, true, 0x00000000⟩
  | .walclk    => ⟨11, 0x30, 4, 0xFFFFFFFF, 0x00000000, .walclk, .ro, true, 0x00000000⟩
  | .corblbase => ⟨12, 0x40, 4, 0xFFFFFF80, 0xFFFFFF80, .plain, .plain, true, 0x00000000⟩
  | .corbubase => ⟨13, 0x44, 4, 0xFFFFFFFF, 0xFFFFFFFF, .plain, .plain, true, 0x00000000⟩
  | .corbwp    => ⟨14, 0x48, 2, 0x00FF, 0x00FF, .plain, .corbwp, true, 0x0000⟩
  | .corbrp    => ⟨15, 0x4A, 2, 0x80FF, 0x8000, .plain, .corbrp, true, 0x0000⟩
  | .corbctl   => ⟨16, 0x4C, 1, 0x03, 0x03, .plain, .corbctl, true, 0x00⟩
  | .corbsts   => ⟨17, 0x4D, 1, 0x01, 0x01, .plain, .w1c, true, 0x00⟩
  | .corbsize  => ⟨18, 0x4E, 1, 0xF3, 0x03, .plain, .corbsize, true, 0x72⟩
  | .rirblbase => ⟨19, 0x50, 4, 0xFFFFFF80, 0xFFFFFF80, .plain, .plain, true, 0x00000000⟩
  | .rirbubase => ⟨20, 0x54, 4, 0xFFFFFFFF, 0xFFFFFFFF, .plain, .plain, true, 0x00000000⟩
  | .rirbwp    => ⟨21, 0x58, 2, 0x00FF, 0x8000, .plain, .rirbwp, true, 0x0000⟩
  | .rintcnt   => ⟨22, 0x5A, 2, 0x00FF, 0x00FF, .plain, .plain, true, 0x0000⟩
  | .rirbctl   => ⟨23, 0x5C, 1, 0x07, 0x07, .plain, .rirbctl, true, 0x00⟩
  | .rirbsts   => ⟨24, 0x5D, 1, 0x05, 0x05, .plain, .rirbsts, true, 0x00⟩
  | .rirbsize  => ⟨25, 0x5E, 1, 0xF3, 0x03, .plain, .rirbsize, true, 0x72⟩

/-- The global register table of this controller: R23 with the `N_IN` and `N_OUT` of the model (log entry 4). -/
def GReg.desc (r : GReg) : Desc := r.descFor nIn nOut

/-- The block base `B(n) = 0x80 + 0x20*n` of a stream (10_state.md R24). -/
def streamBase (n : Stream) : Nat := 0x80 + 0x20 * n.val

/-- The stream register table, 10_state.md R24; ids are `26 + 10*n + k`. -/
def SReg.desc (k : SReg) (n : Stream) : Desc :=
  match k with
  | .ctl   => ⟨26 + 10 * n.val + 0, streamBase n + 0x00, 3, 0xFF001F, 0xFF001F, .plain, .sdctl n, true, 0x040000⟩
  | .sts   => ⟨26 + 10 * n.val + 1, streamBase n + 0x03, 1, 0x3C, 0x1C, .plain, .sdsts n, true, 0x20⟩
  | .lpib  => ⟨26 + 10 * n.val + 2, streamBase n + 0x04, 4, 0xFFFFFFFF, 0x00000000, .plain, .ro, true, 0x00000000⟩
  | .cbl   => ⟨26 + 10 * n.val + 3, streamBase n + 0x08, 4, 0xFFFFFFFF, 0xFFFFFFFF, .plain, .sdguard n, false, 0x00000000⟩
  | .lvi   => ⟨26 + 10 * n.val + 4, streamBase n + 0x0C, 2, 0x00FF, 0x00FF, .plain, .sdguard n, false, 0x0000⟩
  | .fifow => ⟨26 + 10 * n.val + 5, streamBase n + 0x0E, 2, 0x0007, 0x0007, .plain, .sdguard n, false, 0x0004⟩
  | .fifos => ⟨26 + 10 * n.val + 6, streamBase n + 0x10, 2, 0x00FF, 0x0000, .plain, .ro, true,
      bif isInput n then 0x0077 else 0x00BF⟩
  | .fmt   => ⟨26 + 10 * n.val + 7, streamBase n + 0x12, 2, 0x7F7F, 0x7F7F, .plain, .sdguard n, false, 0x0000⟩
  | .bdpl  => ⟨26 + 10 * n.val + 8, streamBase n + 0x18, 4, 0xFFFFFF80, 0xFFFFFF80, .plain, .sdguard n, false, 0x00000000⟩
  | .bdpu  => ⟨26 + 10 * n.val + 9, streamBase n + 0x1C, 4, 0xFFFFFFFF, 0xFFFFFFFF, .plain, .sdguard n, false, 0x00000000⟩

/-- The descriptor of a register. -/
def Reg.desc : Reg → Desc
  | .glob r => r.desc
  | .str k n => k.desc n

/-- Byte offset of a register in the window. -/
def Reg.off (r : Reg) : Nat := r.desc.off

/-- Width of a register in bytes. -/
def Reg.width (r : Reg) : Nat := r.desc.width

/-- The bits a guest can read. -/
def Reg.rmask (r : Reg) : Word := r.desc.rmask

/-- The bits a guest can write. -/
def Reg.wmask (r : Reg) : Word := r.desc.wmask

/-- The value after PORESET and CTRL.RESET. -/
def Reg.resetVal (r : Reg) : Word := r.desc.reset

/-- All bits of a register's width (R8: a store truncates to the width). -/
def Reg.fullMask (r : Reg) : Word := BitVec.ofNat 32 (2 ^ (8 * r.width) - 1)

/-- The register's slot in the register value array is inside the array (26 + 8 * 10 = 106 slots). -/
theorem Reg.id_lt (r : Reg) : r.desc.id < 106 := by
  cases r with
  | glob r => cases r <;> decide
  | str k n => cases k <;> simp only [Reg.desc, SReg.desc] <;> omega

/-- The register's slot in the register value array. -/
def Reg.slot (r : Reg) : Fin 106 := ⟨r.desc.id, r.id_lt⟩

/-- The global registers in table order. -/
def globalRegs : List GReg :=
  [.gcap, .vmin, .vmaj, .outpay, .inpay, .gctl, .wakeen, .statests, .gsts, .intctl, .intsts, .walclk,
   .corblbase, .corbubase, .corbwp, .corbrp, .corbctl, .corbsts, .corbsize,
   .rirblbase, .rirbubase, .rirbwp, .rintcnt, .rirbctl, .rirbsts, .rirbsize]

/-- The stream registers in table order. -/
def streamRegs : List SReg := [.ctl, .sts, .lpib, .cbl, .lvi, .fifow, .fifos, .fmt, .bdpl, .bdpu]

/-- Every stream ordinal, ascending. -/
def allStreams : List Stream := [0, 1, 2, 3, 4, 5, 6, 7]

/-- Every register of R23 and R24, in the order of their ids. -/
def allRegs : List Reg :=
  globalRegs.map Reg.glob ++ allStreams.flatMap fun n => streamRegs.map fun k => Reg.str k n

/-- The register is one of stream `n`'s block. -/
def Reg.ofStream (n : Stream) : Reg → Bool
  | .glob _ => false
  | .str _ m => decide (m = n)

/-- The entries of the second table, 10_state.md R25: offsets that reach another register's storage. -/
inductive Dup
  | walclk
  | lpib (n : Stream)
  deriving DecidableEq, Repr

/-- The canonical register of an entry of R25. -/
def Dup.reg : Dup → Reg
  | .walclk => .glob .walclk
  | .lpib n => .str .lpib n

/-- The offset of an entry of R25. -/
def Dup.off : Dup → Nat
  | .walclk => 0x2030
  | .lpib n => 0x2084 + 0x20 * n.val

/-- `o` is byte `i` of a field of `width` bytes at `off`. -/
def byteWithin (off width o : Nat) : Option Nat :=
  if off ≤ o ∧ o < off + width then some (o - off) else none

/-- The entry of R25 that covers an offset, and the byte inside it. -/
def dupAt (o : Nat) : Option (Dup × Nat) :=
  match byteWithin Dup.walclk.off 4 o with
  | some j => some (.walclk, j)
  | none =>
    if 0x2084 ≤ o ∧ o < 0x2084 + 0x20 * nStreams then
      let n : Stream := Fin.ofNat 8 ((o - 0x2084) / 0x20)
      (byteWithin (Dup.lpib n).off 4 o).map fun j => (.lpib n, j)
    else none

/-- The register whose canonical bytes cover an offset, and the byte inside it: the lookup of R103 in
the tables of R23 and R24, with the arithmetic of R103 for the stream blocks. -/
def regAt (o : Nat) : Option (Reg × Nat) :=
  if o < 0x80 then
    globalRegs.findSome? fun r => (byteWithin r.desc.off r.desc.width o).map fun j => (.glob r, j)
  else if o < 0x80 + 0x20 * nStreams then
    let n : Stream := Fin.ofNat 8 ((o - 0x80) / 0x20)
    streamRegs.findSome? fun k => (byteWithin (k.desc n).off (k.desc n).width o).map fun j => (.str k n, j)
  else none

/-- `decodeByte(o)`, 30_encoding.md R103: an offset covered by the table of R25 is first translated to
the canonical offset; then the register tables are searched; `none` is "unmapped". -/
def decodeByte (o : Nat) : Option (Reg × Nat) :=
  match dupAt o with
  | some (a, j) => regAt (a.reg.off + j)
  | none => regAt o

/-- A row of `opcode_table.json` that an access can start in: a register at its own offset, or at an
offset of R25 (30_encoding.md R104). -/
inductive Target
  | reg (r : Reg)
  | dup (a : Dup)
  deriving DecidableEq, Repr

/-- The window offset of a row. -/
def Target.off : Target → Nat
  | .reg r => r.off
  | .dup a => a.off

/-- The register that a row reads or writes: its own, or the one whose storage it shares (R25). -/
def Target.register : Target → Reg
  | .reg r => r
  | .dup a => a.reg

/-- The width in bytes of a row's register. -/
def Target.width (t : Target) : Nat := t.register.width

/-- The row that covers an offset, and the byte inside it; `none` where the offset is unmapped. -/
def targetAt (o : Nat) : Option (Target × Nat) :=
  match dupAt o with
  | some (a, j) => some (.dup a, j)
  | none => (regAt o).map fun p => (.reg p.1, p.2)

end Sys2Proof
end

