-- ==== Sys2Proof/Syntax.lean ====
section
/-! DEFINITION. The operations as syntax: one constructor per row of spec/opcode_table.json
(30_encoding.md R104). A register row (`rd…`, `wr…`) is a bus transaction whose first byte is byte `lo`
of that row's register (`lo = 0` is the access at the register's own offset), of width `w`, with value
`v` if it is a write; the transaction may run past the register (R103, R136). `rdUnmapped` and
`wrUnmapped` are the transactions whose first byte no row covers, at window offset `off`. The other
constructors are the operations of 00_scope.md R4 that are not bus transactions. -/

namespace Sys2Proof

/-- The operations of the controller, one constructor per opcode-table row. -/
inductive Instr
  | rdGCAP (lo : Fin 4) (w : Width)
  | wrGCAP (lo : Fin 4) (w : Width) (v : Word)
  | rdVMIN (lo : Fin 4) (w : Width)
  | wrVMIN (lo : Fin 4) (w : Width) (v : Word)
  | rdVMAJ (lo : Fin 4) (w : Width)
  | wrVMAJ (lo : Fin 4) (w : Width) (v : Word)
  | rdOUTPAY (lo : Fin 4) (w : Width)
  | wrOUTPAY (lo : Fin 4) (w : Width) (v : Word)
  | rdINPAY (lo : Fin 4) (w : Width)
  | wrINPAY (lo : Fin 4) (w : Width) (v : Word)
  | rdGCTL (lo : Fin 4) (w : Width)
  | wrGCTL (lo : Fin 4) (w : Width) (v : Word)
  | rdWAKEEN (lo : Fin 4) (w : Width)
  | wrWAKEEN (lo : Fin 4) (w : Width) (v : Word)
  | rdSTATESTS (lo : Fin 4) (w : Width)
  | wrSTATESTS (lo : Fin 4) (w : Width) (v : Word)
  | rdGSTS (lo : Fin 4) (w : Width)
  | wrGSTS (lo : Fin 4) (w : Width) (v : Word)
  | rdINTCTL (lo : Fin 4) (w : Width)
  | wrINTCTL (lo : Fin 4) (w : Width) (v : Word)
  | rdINTSTS (lo : Fin 4) (w : Width)
  | wrINTSTS (lo : Fin 4) (w : Width) (v : Word)
  | rdWALCLK (lo : Fin 4) (w : Width)
  | wrWALCLK (lo : Fin 4) (w : Width) (v : Word)
  | rdCORBLBASE (lo : Fin 4) (w : Width)
  | wrCORBLBASE (lo : Fin 4) (w : Width) (v : Word)
  | rdCORBUBASE (lo : Fin 4) (w : Width)
  | wrCORBUBASE (lo : Fin 4) (w : Width) (v : Word)
  | rdCORBWP (lo : Fin 4) (w : Width)
  | wrCORBWP (lo : Fin 4) (w : Width) (v : Word)
  | rdCORBRP (lo : Fin 4) (w : Width)
  | wrCORBRP (lo : Fin 4) (w : Width) (v : Word)
  | rdCORBCTL (lo : Fin 4) (w : Width)
  | wrCORBCTL (lo : Fin 4) (w : Width) (v : Word)
  | rdCORBSTS (lo : Fin 4) (w : Width)
  | wrCORBSTS (lo : Fin 4) (w : Width) (v : Word)
  | rdCORBSIZE (lo : Fin 4) (w : Width)
  | wrCORBSIZE (lo : Fin 4) (w : Width) (v : Word)
  | rdRIRBLBASE (lo : Fin 4) (w : Width)
  | wrRIRBLBASE (lo : Fin 4) (w : Width) (v : Word)
  | rdRIRBUBASE (lo : Fin 4) (w : Width)
  | wrRIRBUBASE (lo : Fin 4) (w : Width) (v : Word)
  | rdRIRBWP (lo : Fin 4) (w : Width)
  | wrRIRBWP (lo : Fin 4) (w : Width) (v : Word)
  | rdRINTCNT (lo : Fin 4) (w : Width)
  | wrRINTCNT (lo : Fin 4) (w : Width) (v : Word)
  | rdRIRBCTL (lo : Fin 4) (w : Width)
  | wrRIRBCTL (lo : Fin 4) (w : Width) (v : Word)
  | rdRIRBSTS (lo : Fin 4) (w : Width)
  | wrRIRBSTS (lo : Fin 4) (w : Width) (v : Word)
  | rdRIRBSIZE (lo : Fin 4) (w : Width)
  | wrRIRBSIZE (lo : Fin 4) (w : Width) (v : Word)
  | rdSD0CTL (lo : Fin 4) (w : Width)
  | wrSD0CTL (lo : Fin 4) (w : Width) (v : Word)
  | rdSD0STS (lo : Fin 4) (w : Width)
  | wrSD0STS (lo : Fin 4) (w : Width) (v : Word)
  | rdSD0LPIB (lo : Fin 4) (w : Width)
  | wrSD0LPIB (lo : Fin 4) (w : Width) (v : Word)
  | rdSD0CBL (lo : Fin 4) (w : Width)
  | wrSD0CBL (lo : Fin 4) (w : Width) (v : Word)
  | rdSD0LVI (lo : Fin 4) (w : Width)
  | wrSD0LVI (lo : Fin 4) (w : Width) (v : Word)
  | rdSD0FIFOW (lo : Fin 4) (w : Width)
  | wrSD0FIFOW (lo : Fin 4) (w : Width) (v : Word)
  | rdSD0FIFOS (lo : Fin 4) (w : Width)
  | wrSD0FIFOS (lo : Fin 4) (w : Width) (v : Word)
  | rdSD0FMT (lo : Fin 4) (w : Width)
  | wrSD0FMT (lo : Fin 4) (w : Width) (v : Word)
  | rdSD0BDPL (lo : Fin 4) (w : Width)
  | wrSD0BDPL (lo : Fin 4) (w : Width) (v : Word)
  | rdSD0BDPU (lo : Fin 4) (w : Width)
  | wrSD0BDPU (lo : Fin 4) (w : Width) (v : Word)
  | rdSD1CTL (lo : Fin 4) (w : Width)
  | wrSD1CTL (lo : Fin 4) (w : Width) (v : Word)
  | rdSD1STS (lo : Fin 4) (w : Width)
  | wrSD1STS (lo : Fin 4) (w : Width) (v : Word)
  | rdSD1LPIB (lo : Fin 4) (w : Width)
  | wrSD1LPIB (lo : Fin 4) (w : Width) (v : Word)
  | rdSD1CBL (lo : Fin 4) (w : Width)
  | wrSD1CBL (lo : Fin 4) (w : Width) (v : Word)
  | rdSD1LVI (lo : Fin 4) (w : Width)
  | wrSD1LVI (lo : Fin 4) (w : Width) (v : Word)
  | rdSD1FIFOW (lo : Fin 4) (w : Width)
  | wrSD1FIFOW (lo : Fin 4) (w : Width) (v : Word)
  | rdSD1FIFOS (lo : Fin 4) (w : Width)
  | wrSD1FIFOS (lo : Fin 4) (w : Width) (v : Word)
  | rdSD1FMT (lo : Fin 4) (w : Width)
  | wrSD1FMT (lo : Fin 4) (w : Width) (v : Word)
  | rdSD1BDPL (lo : Fin 4) (w : Width)
  | wrSD1BDPL (lo : Fin 4) (w : Width) (v : Word)
  | rdSD1BDPU (lo : Fin 4) (w : Width)
  | wrSD1BDPU (lo : Fin 4) (w : Width) (v : Word)
  | rdSD2CTL (lo : Fin 4) (w : Width)
  | wrSD2CTL (lo : Fin 4) (w : Width) (v : Word)
  | rdSD2STS (lo : Fin 4) (w : Width)
  | wrSD2STS (lo : Fin 4) (w : Width) (v : Word)
  | rdSD2LPIB (lo : Fin 4) (w : Width)
  | wrSD2LPIB (lo : Fin 4) (w : Width) (v : Word)
  | rdSD2CBL (lo : Fin 4) (w : Width)
  | wrSD2CBL (lo : Fin 4) (w : Width) (v : Word)
  | rdSD2LVI (lo : Fin 4) (w : Width)
  | wrSD2LVI (lo : Fin 4) (w : Width) (v : Word)
  | rdSD2FIFOW (lo : Fin 4) (w : Width)
  | wrSD2FIFOW (lo : Fin 4) (w : Width) (v : Word)
  | rdSD2FIFOS (lo : Fin 4) (w : Width)
  | wrSD2FIFOS (lo : Fin 4) (w : Width) (v : Word)
  | rdSD2FMT (lo : Fin 4) (w : Width)
  | wrSD2FMT (lo : Fin 4) (w : Width) (v : Word)
  | rdSD2BDPL (lo : Fin 4) (w : Width)
  | wrSD2BDPL (lo : Fin 4) (w : Width) (v : Word)
  | rdSD2BDPU (lo : Fin 4) (w : Width)
  | wrSD2BDPU (lo : Fin 4) (w : Width) (v : Word)
  | rdSD3CTL (lo : Fin 4) (w : Width)
  | wrSD3CTL (lo : Fin 4) (w : Width) (v : Word)
  | rdSD3STS (lo : Fin 4) (w : Width)
  | wrSD3STS (lo : Fin 4) (w : Width) (v : Word)
  | rdSD3LPIB (lo : Fin 4) (w : Width)
  | wrSD3LPIB (lo : Fin 4) (w : Width) (v : Word)
  | rdSD3CBL (lo : Fin 4) (w : Width)
  | wrSD3CBL (lo : Fin 4) (w : Width) (v : Word)
  | rdSD3LVI (lo : Fin 4) (w : Width)
  | wrSD3LVI (lo : Fin 4) (w : Width) (v : Word)
  | rdSD3FIFOW (lo : Fin 4) (w : Width)
  | wrSD3FIFOW (lo : Fin 4) (w : Width) (v : Word)
  | rdSD3FIFOS (lo : Fin 4) (w : Width)
  | wrSD3FIFOS (lo : Fin 4) (w : Width) (v : Word)
  | rdSD3FMT (lo : Fin 4) (w : Width)
  | wrSD3FMT (lo : Fin 4) (w : Width) (v : Word)
  | rdSD3BDPL (lo : Fin 4) (w : Width)
  | wrSD3BDPL (lo : Fin 4) (w : Width) (v : Word)
  | rdSD3BDPU (lo : Fin 4) (w : Width)
  | wrSD3BDPU (lo : Fin 4) (w : Width) (v : Word)
  | rdSD4CTL (lo : Fin 4) (w : Width)
  | wrSD4CTL (lo : Fin 4) (w : Width) (v : Word)
  | rdSD4STS (lo : Fin 4) (w : Width)
  | wrSD4STS (lo : Fin 4) (w : Width) (v : Word)
  | rdSD4LPIB (lo : Fin 4) (w : Width)
  | wrSD4LPIB (lo : Fin 4) (w : Width) (v : Word)
  | rdSD4CBL (lo : Fin 4) (w : Width)
  | wrSD4CBL (lo : Fin 4) (w : Width) (v : Word)
  | rdSD4LVI (lo : Fin 4) (w : Width)
  | wrSD4LVI (lo : Fin 4) (w : Width) (v : Word)
  | rdSD4FIFOW (lo : Fin 4) (w : Width)
  | wrSD4FIFOW (lo : Fin 4) (w : Width) (v : Word)
  | rdSD4FIFOS (lo : Fin 4) (w : Width)
  | wrSD4FIFOS (lo : Fin 4) (w : Width) (v : Word)
  | rdSD4FMT (lo : Fin 4) (w : Width)
  | wrSD4FMT (lo : Fin 4) (w : Width) (v : Word)
  | rdSD4BDPL (lo : Fin 4) (w : Width)
  | wrSD4BDPL (lo : Fin 4) (w : Width) (v : Word)
  | rdSD4BDPU (lo : Fin 4) (w : Width)
  | wrSD4BDPU (lo : Fin 4) (w : Width) (v : Word)
  | rdSD5CTL (lo : Fin 4) (w : Width)
  | wrSD5CTL (lo : Fin 4) (w : Width) (v : Word)
  | rdSD5STS (lo : Fin 4) (w : Width)
  | wrSD5STS (lo : Fin 4) (w : Width) (v : Word)
  | rdSD5LPIB (lo : Fin 4) (w : Width)
  | wrSD5LPIB (lo : Fin 4) (w : Width) (v : Word)
  | rdSD5CBL (lo : Fin 4) (w : Width)
  | wrSD5CBL (lo : Fin 4) (w : Width) (v : Word)
  | rdSD5LVI (lo : Fin 4) (w : Width)
  | wrSD5LVI (lo : Fin 4) (w : Width) (v : Word)
  | rdSD5FIFOW (lo : Fin 4) (w : Width)
  | wrSD5FIFOW (lo : Fin 4) (w : Width) (v : Word)
  | rdSD5FIFOS (lo : Fin 4) (w : Width)
  | wrSD5FIFOS (lo : Fin 4) (w : Width) (v : Word)
  | rdSD5FMT (lo : Fin 4) (w : Width)
  | wrSD5FMT (lo : Fin 4) (w : Width) (v : Word)
  | rdSD5BDPL (lo : Fin 4) (w : Width)
  | wrSD5BDPL (lo : Fin 4) (w : Width) (v : Word)
  | rdSD5BDPU (lo : Fin 4) (w : Width)
  | wrSD5BDPU (lo : Fin 4) (w : Width) (v : Word)
  | rdSD6CTL (lo : Fin 4) (w : Width)
  | wrSD6CTL (lo : Fin 4) (w : Width) (v : Word)
  | rdSD6STS (lo : Fin 4) (w : Width)
  | wrSD6STS (lo : Fin 4) (w : Width) (v : Word)
  | rdSD6LPIB (lo : Fin 4) (w : Width)
  | wrSD6LPIB (lo : Fin 4) (w : Width) (v : Word)
  | rdSD6CBL (lo : Fin 4) (w : Width)
  | wrSD6CBL (lo : Fin 4) (w : Width) (v : Word)
  | rdSD6LVI (lo : Fin 4) (w : Width)
  | wrSD6LVI (lo : Fin 4) (w : Width) (v : Word)
  | rdSD6FIFOW (lo : Fin 4) (w : Width)
  | wrSD6FIFOW (lo : Fin 4) (w : Width) (v : Word)
  | rdSD6FIFOS (lo : Fin 4) (w : Width)
  | wrSD6FIFOS (lo : Fin 4) (w : Width) (v : Word)
  | rdSD6FMT (lo : Fin 4) (w : Width)
  | wrSD6FMT (lo : Fin 4) (w : Width) (v : Word)
  | rdSD6BDPL (lo : Fin 4) (w : Width)
  | wrSD6BDPL (lo : Fin 4) (w : Width) (v : Word)
  | rdSD6BDPU (lo : Fin 4) (w : Width)
  | wrSD6BDPU (lo : Fin 4) (w : Width) (v : Word)
  | rdSD7CTL (lo : Fin 4) (w : Width)
  | wrSD7CTL (lo : Fin 4) (w : Width) (v : Word)
  | rdSD7STS (lo : Fin 4) (w : Width)
  | wrSD7STS (lo : Fin 4) (w : Width) (v : Word)
  | rdSD7LPIB (lo : Fin 4) (w : Width)
  | wrSD7LPIB (lo : Fin 4) (w : Width) (v : Word)
  | rdSD7CBL (lo : Fin 4) (w : Width)
  | wrSD7CBL (lo : Fin 4) (w : Width) (v : Word)
  | rdSD7LVI (lo : Fin 4) (w : Width)
  | wrSD7LVI (lo : Fin 4) (w : Width) (v : Word)
  | rdSD7FIFOW (lo : Fin 4) (w : Width)
  | wrSD7FIFOW (lo : Fin 4) (w : Width) (v : Word)
  | rdSD7FIFOS (lo : Fin 4) (w : Width)
  | wrSD7FIFOS (lo : Fin 4) (w : Width) (v : Word)
  | rdSD7FMT (lo : Fin 4) (w : Width)
  | wrSD7FMT (lo : Fin 4) (w : Width) (v : Word)
  | rdSD7BDPL (lo : Fin 4) (w : Width)
  | wrSD7BDPL (lo : Fin 4) (w : Width) (v : Word)
  | rdSD7BDPU (lo : Fin 4) (w : Width)
  | wrSD7BDPU (lo : Fin 4) (w : Width) (v : Word)
  | rdWALCLKAlias (lo : Fin 4) (w : Width)
  | wrWALCLKAlias (lo : Fin 4) (w : Width) (v : Word)
  | rdSD0LPIBAlias (lo : Fin 4) (w : Width)
  | wrSD0LPIBAlias (lo : Fin 4) (w : Width) (v : Word)
  | rdSD1LPIBAlias (lo : Fin 4) (w : Width)
  | wrSD1LPIBAlias (lo : Fin 4) (w : Width) (v : Word)
  | rdSD2LPIBAlias (lo : Fin 4) (w : Width)
  | wrSD2LPIBAlias (lo : Fin 4) (w : Width) (v : Word)
  | rdSD3LPIBAlias (lo : Fin 4) (w : Width)
  | wrSD3LPIBAlias (lo : Fin 4) (w : Width) (v : Word)
  | rdSD4LPIBAlias (lo : Fin 4) (w : Width)
  | wrSD4LPIBAlias (lo : Fin 4) (w : Width) (v : Word)
  | rdSD5LPIBAlias (lo : Fin 4) (w : Width)
  | wrSD5LPIBAlias (lo : Fin 4) (w : Width) (v : Word)
  | rdSD6LPIBAlias (lo : Fin 4) (w : Width)
  | wrSD6LPIBAlias (lo : Fin 4) (w : Width) (v : Word)
  | rdSD7LPIBAlias (lo : Fin 4) (w : Width)
  | wrSD7LPIBAlias (lo : Fin 4) (w : Width) (v : Word)
  | rdUnmapped (off : BitVec 24) (w : Width)
  | wrUnmapped (off : BitVec 24) (w : Width) (v : Word)
  | drain
  | tick (n : BitVec 4)
  | sink (n : BitVec 4) (k : Word)
  | time (d : Word)
  | save
  | restore
  | poweroff
  | poreset
  deriving DecidableEq, Repr

end Sys2Proof
end

