-- ==== Sys2Proof/Machine/Forms.lean ====
section
/-! DEFINITION. Each instruction as a form: the transaction or operation of 00_scope.md R4 that its row
of the opcode table stands for. The encoding, the well-formedness checks and the statements about
groups of rows are written over forms; `Instr.form` and `Instr.ofForm` say which form each of the 240
rows is. -/

namespace Sys2Proof

/-- The shapes of the opcode table's rows. -/
inductive Form
  | rd (t : Target) (lo : Fin 4) (w : Width)
  | wr (t : Target) (lo : Fin 4) (w : Width) (v : Word)
  | rdUnmapped (off : BitVec 24) (w : Width)
  | wrUnmapped (off : BitVec 24) (w : Width) (v : Word)
  | drain
  | tick (n : BitVec 4)
  | sink (n : BitVec 4) (k : Word)
  | time (d : Word)
  | save
  | restore
  | poweroff
  | poreset
  deriving DecidableEq, Repr

/-- The form of an instruction: which register or second offset its row names. -/
def Instr.form : Instr → Form
  | .rdGCAP lo w => .rd (.reg (.glob .gcap)) lo w
  | .wrGCAP lo w v => .wr (.reg (.glob .gcap)) lo w v
  | .rdVMIN lo w => .rd (.reg (.glob .vmin)) lo w
  | .wrVMIN lo w v => .wr (.reg (.glob .vmin)) lo w v
  | .rdVMAJ lo w => .rd (.reg (.glob .vmaj)) lo w
  | .wrVMAJ lo w v => .wr (.reg (.glob .vmaj)) lo w v
  | .rdOUTPAY lo w => .rd (.reg (.glob .outpay)) lo w
  | .wrOUTPAY lo w v => .wr (.reg (.glob .outpay)) lo w v
  | .rdINPAY lo w => .rd (.reg (.glob .inpay)) lo w
  | .wrINPAY lo w v => .wr (.reg (.glob .inpay)) lo w v
  | .rdGCTL lo w => .rd (.reg (.glob .gctl)) lo w
  | .wrGCTL lo w v => .wr (.reg (.glob .gctl)) lo w v
  | .rdWAKEEN lo w => .rd (.reg (.glob .wakeen)) lo w
  | .wrWAKEEN lo w v => .wr (.reg (.glob .wakeen)) lo w v
  | .rdSTATESTS lo w => .rd (.reg (.glob .statests)) lo w
  | .wrSTATESTS lo w v => .wr (.reg (.glob .statests)) lo w v
  | .rdGSTS lo w => .rd (.reg (.glob .gsts)) lo w
  | .wrGSTS lo w v => .wr (.reg (.glob .gsts)) lo w v
  | .rdINTCTL lo w => .rd (.reg (.glob .intctl)) lo w
  | .wrINTCTL lo w v => .wr (.reg (.glob .intctl)) lo w v
  | .rdINTSTS lo w => .rd (.reg (.glob .intsts)) lo w
  | .wrINTSTS lo w v => .wr (.reg (.glob .intsts)) lo w v
  | .rdWALCLK lo w => .rd (.reg (.glob .walclk)) lo w
  | .wrWALCLK lo w v => .wr (.reg (.glob .walclk)) lo w v
  | .rdCORBLBASE lo w => .rd (.reg (.glob .corblbase)) lo w
  | .wrCORBLBASE lo w v => .wr (.reg (.glob .corblbase)) lo w v
  | .rdCORBUBASE lo w => .rd (.reg (.glob .corbubase)) lo w
  | .wrCORBUBASE lo w v => .wr (.reg (.glob .corbubase)) lo w v
  | .rdCORBWP lo w => .rd (.reg (.glob .corbwp)) lo w
  | .wrCORBWP lo w v => .wr (.reg (.glob .corbwp)) lo w v
  | .rdCORBRP lo w => .rd (.reg (.glob .corbrp)) lo w
  | .wrCORBRP lo w v => .wr (.reg (.glob .corbrp)) lo w v
  | .rdCORBCTL lo w => .rd (.reg (.glob .corbctl)) lo w
  | .wrCORBCTL lo w v => .wr (.reg (.glob .corbctl)) lo w v
  | .rdCORBSTS lo w => .rd (.reg (.glob .corbsts)) lo w
  | .wrCORBSTS lo w v => .wr (.reg (.glob .corbsts)) lo w v
  | .rdCORBSIZE lo w => .rd (.reg (.glob .corbsize)) lo w
  | .wrCORBSIZE lo w v => .wr (.reg (.glob .corbsize)) lo w v
  | .rdRIRBLBASE lo w => .rd (.reg (.glob .rirblbase)) lo w
  | .wrRIRBLBASE lo w v => .wr (.reg (.glob .rirblbase)) lo w v
  | .rdRIRBUBASE lo w => .rd (.reg (.glob .rirbubase)) lo w
  | .wrRIRBUBASE lo w v => .wr (.reg (.glob .rirbubase)) lo w v
  | .rdRIRBWP lo w => .rd (.reg (.glob .rirbwp)) lo w
  | .wrRIRBWP lo w v => .wr (.reg (.glob .rirbwp)) lo w v
  | .rdRINTCNT lo w => .rd (.reg (.glob .rintcnt)) lo w
  | .wrRINTCNT lo w v => .wr (.reg (.glob .rintcnt)) lo w v
  | .rdRIRBCTL lo w => .rd (.reg (.glob .rirbctl)) lo w
  | .wrRIRBCTL lo w v => .wr (.reg (.glob .rirbctl)) lo w v
  | .rdRIRBSTS lo w => .rd (.reg (.glob .rirbsts)) lo w
  | .wrRIRBSTS lo w v => .wr (.reg (.glob .rirbsts)) lo w v
  | .rdRIRBSIZE lo w => .rd (.reg (.glob .rirbsize)) lo w
  | .wrRIRBSIZE lo w v => .wr (.reg (.glob .rirbsize)) lo w v
  | .rdSD0CTL lo w => .rd (.reg (.str .ctl 0)) lo w
  | .wrSD0CTL lo w v => .wr (.reg (.str .ctl 0)) lo w v
  | .rdSD0STS lo w => .rd (.reg (.str .sts 0)) lo w
  | .wrSD0STS lo w v => .wr (.reg (.str .sts 0)) lo w v
  | .rdSD0LPIB lo w => .rd (.reg (.str .lpib 0)) lo w
  | .wrSD0LPIB lo w v => .wr (.reg (.str .lpib 0)) lo w v
  | .rdSD0CBL lo w => .rd (.reg (.str .cbl 0)) lo w
  | .wrSD0CBL lo w v => .wr (.reg (.str .cbl 0)) lo w v
  | .rdSD0LVI lo w => .rd (.reg (.str .lvi 0)) lo w
  | .wrSD0LVI lo w v => .wr (.reg (.str .lvi 0)) lo w v
  | .rdSD0FIFOW lo w => .rd (.reg (.str .fifow 0)) lo w
  | .wrSD0FIFOW lo w v => .wr (.reg (.str .fifow 0)) lo w v
  | .rdSD0FIFOS lo w => .rd (.reg (.str .fifos 0)) lo w
  | .wrSD0FIFOS lo w v => .wr (.reg (.str .fifos 0)) lo w v
  | .rdSD0FMT lo w => .rd (.reg (.str .fmt 0)) lo w
  | .wrSD0FMT lo w v => .wr (.reg (.str .fmt 0)) lo w v
  | .rdSD0BDPL lo w => .rd (.reg (.str .bdpl 0)) lo w
  | .wrSD0BDPL lo w v => .wr (.reg (.str .bdpl 0)) lo w v
  | .rdSD0BDPU lo w => .rd (.reg (.str .bdpu 0)) lo w
  | .wrSD0BDPU lo w v => .wr (.reg (.str .bdpu 0)) lo w v
  | .rdSD1CTL lo w => .rd (.reg (.str .ctl 1)) lo w
  | .wrSD1CTL lo w v => .wr (.reg (.str .ctl 1)) lo w v
  | .rdSD1STS lo w => .rd (.reg (.str .sts 1)) lo w
  | .wrSD1STS lo w v => .wr (.reg (.str .sts 1)) lo w v
  | .rdSD1LPIB lo w => .rd (.reg (.str .lpib 1)) lo w
  | .wrSD1LPIB lo w v => .wr (.reg (.str .lpib 1)) lo w v
  | .rdSD1CBL lo w => .rd (.reg (.str .cbl 1)) lo w
  | .wrSD1CBL lo w v => .wr (.reg (.str .cbl 1)) lo w v
  | .rdSD1LVI lo w => .rd (.reg (.str .lvi 1)) lo w
  | .wrSD1LVI lo w v => .wr (.reg (.str .lvi 1)) lo w v
  | .rdSD1FIFOW lo w => .rd (.reg (.str .fifow 1)) lo w
  | .wrSD1FIFOW lo w v => .wr (.reg (.str .fifow 1)) lo w v
  | .rdSD1FIFOS lo w => .rd (.reg (.str .fifos 1)) lo w
  | .wrSD1FIFOS lo w v => .wr (.reg (.str .fifos 1)) lo w v
  | .rdSD1FMT lo w => .rd (.reg (.str .fmt 1)) lo w
  | .wrSD1FMT lo w v => .wr (.reg (.str .fmt 1)) lo w v
  | .rdSD1BDPL lo w => .rd (.reg (.str .bdpl 1)) lo w
  | .wrSD1BDPL lo w v => .wr (.reg (.str .bdpl 1)) lo w v
  | .rdSD1BDPU lo w => .rd (.reg (.str .bdpu 1)) lo w
  | .wrSD1BDPU lo w v => .wr (.reg (.str .bdpu 1)) lo w v
  | .rdSD2CTL lo w => .rd (.reg (.str .ctl 2)) lo w
  | .wrSD2CTL lo w v => .wr (.reg (.str .ctl 2)) lo w v
  | .rdSD2STS lo w => .rd (.reg (.str .sts 2)) lo w
  | .wrSD2STS lo w v => .wr (.reg (.str .sts 2)) lo w v
  | .rdSD2LPIB lo w => .rd (.reg (.str .lpib 2)) lo w
  | .wrSD2LPIB lo w v => .wr (.reg (.str .lpib 2)) lo w v
  | .rdSD2CBL lo w => .rd (.reg (.str .cbl 2)) lo w
  | .wrSD2CBL lo w v => .wr (.reg (.str .cbl 2)) lo w v
  | .rdSD2LVI lo w => .rd (.reg (.str .lvi 2)) lo w
  | .wrSD2LVI lo w v => .wr (.reg (.str .lvi 2)) lo w v
  | .rdSD2FIFOW lo w => .rd (.reg (.str .fifow 2)) lo w
  | .wrSD2FIFOW lo w v => .wr (.reg (.str .fifow 2)) lo w v
  | .rdSD2FIFOS lo w => .rd (.reg (.str .fifos 2)) lo w
  | .wrSD2FIFOS lo w v => .wr (.reg (.str .fifos 2)) lo w v
  | .rdSD2FMT lo w => .rd (.reg (.str .fmt 2)) lo w
  | .wrSD2FMT lo w v => .wr (.reg (.str .fmt 2)) lo w v
  | .rdSD2BDPL lo w => .rd (.reg (.str .bdpl 2)) lo w
  | .wrSD2BDPL lo w v => .wr (.reg (.str .bdpl 2)) lo w v
  | .rdSD2BDPU lo w => .rd (.reg (.str .bdpu 2)) lo w
  | .wrSD2BDPU lo w v => .wr (.reg (.str .bdpu 2)) lo w v
  | .rdSD3CTL lo w => .rd (.reg (.str .ctl 3)) lo w
  | .wrSD3CTL lo w v => .wr (.reg (.str .ctl 3)) lo w v
  | .rdSD3STS lo w => .rd (.reg (.str .sts 3)) lo w
  | .wrSD3STS lo w v => .wr (.reg (.str .sts 3)) lo w v
  | .rdSD3LPIB lo w => .rd (.reg (.str .lpib 3)) lo w
  | .wrSD3LPIB lo w v => .wr (.reg (.str .lpib 3)) lo w v
  | .rdSD3CBL lo w => .rd (.reg (.str .cbl 3)) lo w
  | .wrSD3CBL lo w v => .wr (.reg (.str .cbl 3)) lo w v
  | .rdSD3LVI lo w => .rd (.reg (.str .lvi 3)) lo w
  | .wrSD3LVI lo w v => .wr (.reg (.str .lvi 3)) lo w v
  | .rdSD3FIFOW lo w => .rd (.reg (.str .fifow 3)) lo w
  | .wrSD3FIFOW lo w v => .wr (.reg (.str .fifow 3)) lo w v
  | .rdSD3FIFOS lo w => .rd (.reg (.str .fifos 3)) lo w
  | .wrSD3FIFOS lo w v => .wr (.reg (.str .fifos 3)) lo w v
  | .rdSD3FMT lo w => .rd (.reg (.str .fmt 3)) lo w
  | .wrSD3FMT lo w v => .wr (.reg (.str .fmt 3)) lo w v
  | .rdSD3BDPL lo w => .rd (.reg (.str .bdpl 3)) lo w
  | .wrSD3BDPL lo w v => .wr (.reg (.str .bdpl 3)) lo w v
  | .rdSD3BDPU lo w => .rd (.reg (.str .bdpu 3)) lo w
  | .wrSD3BDPU lo w v => .wr (.reg (.str .bdpu 3)) lo w v
  | .rdSD4CTL lo w => .rd (.reg (.str .ctl 4)) lo w
  | .wrSD4CTL lo w v => .wr (.reg (.str .ctl 4)) lo w v
  | .rdSD4STS lo w => .rd (.reg (.str .sts 4)) lo w
  | .wrSD4STS lo w v => .wr (.reg (.str .sts 4)) lo w v
  | .rdSD4LPIB lo w => .rd (.reg (.str .lpib 4)) lo w
  | .wrSD4LPIB lo w v => .wr (.reg (.str .lpib 4)) lo w v
  | .rdSD4CBL lo w => .rd (.reg (.str .cbl 4)) lo w
  | .wrSD4CBL lo w v => .wr (.reg (.str .cbl 4)) lo w v
  | .rdSD4LVI lo w => .rd (.reg (.str .lvi 4)) lo w
  | .wrSD4LVI lo w v => .wr (.reg (.str .lvi 4)) lo w v
  | .rdSD4FIFOW lo w => .rd (.reg (.str .fifow 4)) lo w
  | .wrSD4FIFOW lo w v => .wr (.reg (.str .fifow 4)) lo w v
  | .rdSD4FIFOS lo w => .rd (.reg (.str .fifos 4)) lo w
  | .wrSD4FIFOS lo w v => .wr (.reg (.str .fifos 4)) lo w v
  | .rdSD4FMT lo w => .rd (.reg (.str .fmt 4)) lo w
  | .wrSD4FMT lo w v => .wr (.reg (.str .fmt 4)) lo w v
  | .rdSD4BDPL lo w => .rd (.reg (.str .bdpl 4)) lo w
  | .wrSD4BDPL lo w v => .wr (.reg (.str .bdpl 4)) lo w v
  | .rdSD4BDPU lo w => .rd (.reg (.str .bdpu 4)) lo w
  | .wrSD4BDPU lo w v => .wr (.reg (.str .bdpu 4)) lo w v
  | .rdSD5CTL lo w => .rd (.reg (.str .ctl 5)) lo w
  | .wrSD5CTL lo w v => .wr (.reg (.str .ctl 5)) lo w v
  | .rdSD5STS lo w => .rd (.reg (.str .sts 5)) lo w
  | .wrSD5STS lo w v => .wr (.reg (.str .sts 5)) lo w v
  | .rdSD5LPIB lo w => .rd (.reg (.str .lpib 5)) lo w
  | .wrSD5LPIB lo w v => .wr (.reg (.str .lpib 5)) lo w v
  | .rdSD5CBL lo w => .rd (.reg (.str .cbl 5)) lo w
  | .wrSD5CBL lo w v => .wr (.reg (.str .cbl 5)) lo w v
  | .rdSD5LVI lo w => .rd (.reg (.str .lvi 5)) lo w
  | .wrSD5LVI lo w v => .wr (.reg (.str .lvi 5)) lo w v
  | .rdSD5FIFOW lo w => .rd (.reg (.str .fifow 5)) lo w
  | .wrSD5FIFOW lo w v => .wr (.reg (.str .fifow 5)) lo w v
  | .rdSD5FIFOS lo w => .rd (.reg (.str .fifos 5)) lo w
  | .wrSD5FIFOS lo w v => .wr (.reg (.str .fifos 5)) lo w v
  | .rdSD5FMT lo w => .rd (.reg (.str .fmt 5)) lo w
  | .wrSD5FMT lo w v => .wr (.reg (.str .fmt 5)) lo w v
  | .rdSD5BDPL lo w => .rd (.reg (.str .bdpl 5)) lo w
  | .wrSD5BDPL lo w v => .wr (.reg (.str .bdpl 5)) lo w v
  | .rdSD5BDPU lo w => .rd (.reg (.str .bdpu 5)) lo w
  | .wrSD5BDPU lo w v => .wr (.reg (.str .bdpu 5)) lo w v
  | .rdSD6CTL lo w => .rd (.reg (.str .ctl 6)) lo w
  | .wrSD6CTL lo w v => .wr (.reg (.str .ctl 6)) lo w v
  | .rdSD6STS lo w => .rd (.reg (.str .sts 6)) lo w
  | .wrSD6STS lo w v => .wr (.reg (.str .sts 6)) lo w v
  | .rdSD6LPIB lo w => .rd (.reg (.str .lpib 6)) lo w
  | .wrSD6LPIB lo w v => .wr (.reg (.str .lpib 6)) lo w v
  | .rdSD6CBL lo w => .rd (.reg (.str .cbl 6)) lo w
  | .wrSD6CBL lo w v => .wr (.reg (.str .cbl 6)) lo w v
  | .rdSD6LVI lo w => .rd (.reg (.str .lvi 6)) lo w
  | .wrSD6LVI lo w v => .wr (.reg (.str .lvi 6)) lo w v
  | .rdSD6FIFOW lo w => .rd (.reg (.str .fifow 6)) lo w
  | .wrSD6FIFOW lo w v => .wr (.reg (.str .fifow 6)) lo w v
  | .rdSD6FIFOS lo w => .rd (.reg (.str .fifos 6)) lo w
  | .wrSD6FIFOS lo w v => .wr (.reg (.str .fifos 6)) lo w v
  | .rdSD6FMT lo w => .rd (.reg (.str .fmt 6)) lo w
  | .wrSD6FMT lo w v => .wr (.reg (.str .fmt 6)) lo w v
  | .rdSD6BDPL lo w => .rd (.reg (.str .bdpl 6)) lo w
  | .wrSD6BDPL lo w v => .wr (.reg (.str .bdpl 6)) lo w v
  | .rdSD6BDPU lo w => .rd (.reg (.str .bdpu 6)) lo w
  | .wrSD6BDPU lo w v => .wr (.reg (.str .bdpu 6)) lo w v
  | .rdSD7CTL lo w => .rd (.reg (.str .ctl 7)) lo w
  | .wrSD7CTL lo w v => .wr (.reg (.str .ctl 7)) lo w v
  | .rdSD7STS lo w => .rd (.reg (.str .sts 7)) lo w
  | .wrSD7STS lo w v => .wr (.reg (.str .sts 7)) lo w v
  | .rdSD7LPIB lo w => .rd (.reg (.str .lpib 7)) lo w
  | .wrSD7LPIB lo w v => .wr (.reg (.str .lpib 7)) lo w v
  | .rdSD7CBL lo w => .rd (.reg (.str .cbl 7)) lo w
  | .wrSD7CBL lo w v => .wr (.reg (.str .cbl 7)) lo w v
  | .rdSD7LVI lo w => .rd (.reg (.str .lvi 7)) lo w
  | .wrSD7LVI lo w v => .wr (.reg (.str .lvi 7)) lo w v
  | .rdSD7FIFOW lo w => .rd (.reg (.str .fifow 7)) lo w
  | .wrSD7FIFOW lo w v => .wr (.reg (.str .fifow 7)) lo w v
  | .rdSD7FIFOS lo w => .rd (.reg (.str .fifos 7)) lo w
  | .wrSD7FIFOS lo w v => .wr (.reg (.str .fifos 7)) lo w v
  | .rdSD7FMT lo w => .rd (.reg (.str .fmt 7)) lo w
  | .wrSD7FMT lo w v => .wr (.reg (.str .fmt 7)) lo w v
  | .rdSD7BDPL lo w => .rd (.reg (.str .bdpl 7)) lo w
  | .wrSD7BDPL lo w v => .wr (.reg (.str .bdpl 7)) lo w v
  | .rdSD7BDPU lo w => .rd (.reg (.str .bdpu 7)) lo w
  | .wrSD7BDPU lo w v => .wr (.reg (.str .bdpu 7)) lo w v
  | .rdWALCLKAlias lo w => .rd (.dup .walclk) lo w
  | .wrWALCLKAlias lo w v => .wr (.dup .walclk) lo w v
  | .rdSD0LPIBAlias lo w => .rd (.dup (.lpib 0)) lo w
  | .wrSD0LPIBAlias lo w v => .wr (.dup (.lpib 0)) lo w v
  | .rdSD1LPIBAlias lo w => .rd (.dup (.lpib 1)) lo w
  | .wrSD1LPIBAlias lo w v => .wr (.dup (.lpib 1)) lo w v
  | .rdSD2LPIBAlias lo w => .rd (.dup (.lpib 2)) lo w
  | .wrSD2LPIBAlias lo w v => .wr (.dup (.lpib 2)) lo w v
  | .rdSD3LPIBAlias lo w => .rd (.dup (.lpib 3)) lo w
  | .wrSD3LPIBAlias lo w v => .wr (.dup (.lpib 3)) lo w v
  | .rdSD4LPIBAlias lo w => .rd (.dup (.lpib 4)) lo w
  | .wrSD4LPIBAlias lo w v => .wr (.dup (.lpib 4)) lo w v
  | .rdSD5LPIBAlias lo w => .rd (.dup (.lpib 5)) lo w
  | .wrSD5LPIBAlias lo w v => .wr (.dup (.lpib 5)) lo w v
  | .rdSD6LPIBAlias lo w => .rd (.dup (.lpib 6)) lo w
  | .wrSD6LPIBAlias lo w v => .wr (.dup (.lpib 6)) lo w v
  | .rdSD7LPIBAlias lo w => .rd (.dup (.lpib 7)) lo w
  | .wrSD7LPIBAlias lo w v => .wr (.dup (.lpib 7)) lo w v
  | .rdUnmapped off w => .rdUnmapped off w
  | .wrUnmapped off w v => .wrUnmapped off w v
  | .drain => .drain
  | .tick n => .tick n
  | .sink n k => .sink n k
  | .time d => .time d
  | .save => .save
  | .restore => .restore
  | .poweroff => .poweroff
  | .poreset => .poreset

/-- The read row of a target. -/
def rdRow (t : Target) (lo : Fin 4) (w : Width) : Instr :=
  match t with
  | .reg (.glob .gcap) => .rdGCAP lo w
  | .reg (.glob .vmin) => .rdVMIN lo w
  | .reg (.glob .vmaj) => .rdVMAJ lo w
  | .reg (.glob .outpay) => .rdOUTPAY lo w
  | .reg (.glob .inpay) => .rdINPAY lo w
  | .reg (.glob .gctl) => .rdGCTL lo w
  | .reg (.glob .wakeen) => .rdWAKEEN lo w
  | .reg (.glob .statests) => .rdSTATESTS lo w
  | .reg (.glob .gsts) => .rdGSTS lo w
  | .reg (.glob .intctl) => .rdINTCTL lo w
  | .reg (.glob .intsts) => .rdINTSTS lo w
  | .reg (.glob .walclk) => .rdWALCLK lo w
  | .reg (.glob .corblbase) => .rdCORBLBASE lo w
  | .reg (.glob .corbubase) => .rdCORBUBASE lo w
  | .reg (.glob .corbwp) => .rdCORBWP lo w
  | .reg (.glob .corbrp) => .rdCORBRP lo w
  | .reg (.glob .corbctl) => .rdCORBCTL lo w
  | .reg (.glob .corbsts) => .rdCORBSTS lo w
  | .reg (.glob .corbsize) => .rdCORBSIZE lo w
  | .reg (.glob .rirblbase) => .rdRIRBLBASE lo w
  | .reg (.glob .rirbubase) => .rdRIRBUBASE lo w
  | .reg (.glob .rirbwp) => .rdRIRBWP lo w
  | .reg (.glob .rintcnt) => .rdRINTCNT lo w
  | .reg (.glob .rirbctl) => .rdRIRBCTL lo w
  | .reg (.glob .rirbsts) => .rdRIRBSTS lo w
  | .reg (.glob .rirbsize) => .rdRIRBSIZE lo w
  | .reg (.str .ctl 0) => .rdSD0CTL lo w
  | .reg (.str .sts 0) => .rdSD0STS lo w
  | .reg (.str .lpib 0) => .rdSD0LPIB lo w
  | .reg (.str .cbl 0) => .rdSD0CBL lo w
  | .reg (.str .lvi 0) => .rdSD0LVI lo w
  | .reg (.str .fifow 0) => .rdSD0FIFOW lo w
  | .reg (.str .fifos 0) => .rdSD0FIFOS lo w
  | .reg (.str .fmt 0) => .rdSD0FMT lo w
  | .reg (.str .bdpl 0) => .rdSD0BDPL lo w
  | .reg (.str .bdpu 0) => .rdSD0BDPU lo w
  | .reg (.str .ctl 1) => .rdSD1CTL lo w
  | .reg (.str .sts 1) => .rdSD1STS lo w
  | .reg (.str .lpib 1) => .rdSD1LPIB lo w
  | .reg (.str .cbl 1) => .rdSD1CBL lo w
  | .reg (.str .lvi 1) => .rdSD1LVI lo w
  | .reg (.str .fifow 1) => .rdSD1FIFOW lo w
  | .reg (.str .fifos 1) => .rdSD1FIFOS lo w
  | .reg (.str .fmt 1) => .rdSD1FMT lo w
  | .reg (.str .bdpl 1) => .rdSD1BDPL lo w
  | .reg (.str .bdpu 1) => .rdSD1BDPU lo w
  | .reg (.str .ctl 2) => .rdSD2CTL lo w
  | .reg (.str .sts 2) => .rdSD2STS lo w
  | .reg (.str .lpib 2) => .rdSD2LPIB lo w
  | .reg (.str .cbl 2) => .rdSD2CBL lo w
  | .reg (.str .lvi 2) => .rdSD2LVI lo w
  | .reg (.str .fifow 2) => .rdSD2FIFOW lo w
  | .reg (.str .fifos 2) => .rdSD2FIFOS lo w
  | .reg (.str .fmt 2) => .rdSD2FMT lo w
  | .reg (.str .bdpl 2) => .rdSD2BDPL lo w
  | .reg (.str .bdpu 2) => .rdSD2BDPU lo w
  | .reg (.str .ctl 3) => .rdSD3CTL lo w
  | .reg (.str .sts 3) => .rdSD3STS lo w
  | .reg (.str .lpib 3) => .rdSD3LPIB lo w
  | .reg (.str .cbl 3) => .rdSD3CBL lo w
  | .reg (.str .lvi 3) => .rdSD3LVI lo w
  | .reg (.str .fifow 3) => .rdSD3FIFOW lo w
  | .reg (.str .fifos 3) => .rdSD3FIFOS lo w
  | .reg (.str .fmt 3) => .rdSD3FMT lo w
  | .reg (.str .bdpl 3) => .rdSD3BDPL lo w
  | .reg (.str .bdpu 3) => .rdSD3BDPU lo w
  | .reg (.str .ctl 4) => .rdSD4CTL lo w
  | .reg (.str .sts 4) => .rdSD4STS lo w
  | .reg (.str .lpib 4) => .rdSD4LPIB lo w
  | .reg (.str .cbl 4) => .rdSD4CBL lo w
  | .reg (.str .lvi 4) => .rdSD4LVI lo w
  | .reg (.str .fifow 4) => .rdSD4FIFOW lo w
  | .reg (.str .fifos 4) => .rdSD4FIFOS lo w
  | .reg (.str .fmt 4) => .rdSD4FMT lo w
  | .reg (.str .bdpl 4) => .rdSD4BDPL lo w
  | .reg (.str .bdpu 4) => .rdSD4BDPU lo w
  | .reg (.str .ctl 5) => .rdSD5CTL lo w
  | .reg (.str .sts 5) => .rdSD5STS lo w
  | .reg (.str .lpib 5) => .rdSD5LPIB lo w
  | .reg (.str .cbl 5) => .rdSD5CBL lo w
  | .reg (.str .lvi 5) => .rdSD5LVI lo w
  | .reg (.str .fifow 5) => .rdSD5FIFOW lo w
  | .reg (.str .fifos 5) => .rdSD5FIFOS lo w
  | .reg (.str .fmt 5) => .rdSD5FMT lo w
  | .reg (.str .bdpl 5) => .rdSD5BDPL lo w
  | .reg (.str .bdpu 5) => .rdSD5BDPU lo w
  | .reg (.str .ctl 6) => .rdSD6CTL lo w
  | .reg (.str .sts 6) => .rdSD6STS lo w
  | .reg (.str .lpib 6) => .rdSD6LPIB lo w
  | .reg (.str .cbl 6) => .rdSD6CBL lo w
  | .reg (.str .lvi 6) => .rdSD6LVI lo w
  | .reg (.str .fifow 6) => .rdSD6FIFOW lo w
  | .reg (.str .fifos 6) => .rdSD6FIFOS lo w
  | .reg (.str .fmt 6) => .rdSD6FMT lo w
  | .reg (.str .bdpl 6) => .rdSD6BDPL lo w
  | .reg (.str .bdpu 6) => .rdSD6BDPU lo w
  | .reg (.str .ctl 7) => .rdSD7CTL lo w
  | .reg (.str .sts 7) => .rdSD7STS lo w
  | .reg (.str .lpib 7) => .rdSD7LPIB lo w
  | .reg (.str .cbl 7) => .rdSD7CBL lo w
  | .reg (.str .lvi 7) => .rdSD7LVI lo w
  | .reg (.str .fifow 7) => .rdSD7FIFOW lo w
  | .reg (.str .fifos 7) => .rdSD7FIFOS lo w
  | .reg (.str .fmt 7) => .rdSD7FMT lo w
  | .reg (.str .bdpl 7) => .rdSD7BDPL lo w
  | .reg (.str .bdpu 7) => .rdSD7BDPU lo w
  | .dup .walclk => .rdWALCLKAlias lo w
  | .dup (.lpib 0) => .rdSD0LPIBAlias lo w
  | .dup (.lpib 1) => .rdSD1LPIBAlias lo w
  | .dup (.lpib 2) => .rdSD2LPIBAlias lo w
  | .dup (.lpib 3) => .rdSD3LPIBAlias lo w
  | .dup (.lpib 4) => .rdSD4LPIBAlias lo w
  | .dup (.lpib 5) => .rdSD5LPIBAlias lo w
  | .dup (.lpib 6) => .rdSD6LPIBAlias lo w
  | .dup (.lpib 7) => .rdSD7LPIBAlias lo w

/-- The write row of a target. -/
def wrRow (t : Target) (lo : Fin 4) (w : Width) (v : Word) : Instr :=
  match t with
  | .reg (.glob .gcap) => .wrGCAP lo w v
  | .reg (.glob .vmin) => .wrVMIN lo w v
  | .reg (.glob .vmaj) => .wrVMAJ lo w v
  | .reg (.glob .outpay) => .wrOUTPAY lo w v
  | .reg (.glob .inpay) => .wrINPAY lo w v
  | .reg (.glob .gctl) => .wrGCTL lo w v
  | .reg (.glob .wakeen) => .wrWAKEEN lo w v
  | .reg (.glob .statests) => .wrSTATESTS lo w v
  | .reg (.glob .gsts) => .wrGSTS lo w v
  | .reg (.glob .intctl) => .wrINTCTL lo w v
  | .reg (.glob .intsts) => .wrINTSTS lo w v
  | .reg (.glob .walclk) => .wrWALCLK lo w v
  | .reg (.glob .corblbase) => .wrCORBLBASE lo w v
  | .reg (.glob .corbubase) => .wrCORBUBASE lo w v
  | .reg (.glob .corbwp) => .wrCORBWP lo w v
  | .reg (.glob .corbrp) => .wrCORBRP lo w v
  | .reg (.glob .corbctl) => .wrCORBCTL lo w v
  | .reg (.glob .corbsts) => .wrCORBSTS lo w v
  | .reg (.glob .corbsize) => .wrCORBSIZE lo w v
  | .reg (.glob .rirblbase) => .wrRIRBLBASE lo w v
  | .reg (.glob .rirbubase) => .wrRIRBUBASE lo w v
  | .reg (.glob .rirbwp) => .wrRIRBWP lo w v
  | .reg (.glob .rintcnt) => .wrRINTCNT lo w v
  | .reg (.glob .rirbctl) => .wrRIRBCTL lo w v
  | .reg (.glob .rirbsts) => .wrRIRBSTS lo w v
  | .reg (.glob .rirbsize) => .wrRIRBSIZE lo w v
  | .reg (.str .ctl 0) => .wrSD0CTL lo w v
  | .reg (.str .sts 0) => .wrSD0STS lo w v
  | .reg (.str .lpib 0) => .wrSD0LPIB lo w v
  | .reg (.str .cbl 0) => .wrSD0CBL lo w v
  | .reg (.str .lvi 0) => .wrSD0LVI lo w v
  | .reg (.str .fifow 0) => .wrSD0FIFOW lo w v
  | .reg (.str .fifos 0) => .wrSD0FIFOS lo w v
  | .reg (.str .fmt 0) => .wrSD0FMT lo w v
  | .reg (.str .bdpl 0) => .wrSD0BDPL lo w v
  | .reg (.str .bdpu 0) => .wrSD0BDPU lo w v
  | .reg (.str .ctl 1) => .wrSD1CTL lo w v
  | .reg (.str .sts 1) => .wrSD1STS lo w v
  | .reg (.str .lpib 1) => .wrSD1LPIB lo w v
  | .reg (.str .cbl 1) => .wrSD1CBL lo w v
  | .reg (.str .lvi 1) => .wrSD1LVI lo w v
  | .reg (.str .fifow 1) => .wrSD1FIFOW lo w v
  | .reg (.str .fifos 1) => .wrSD1FIFOS lo w v
  | .reg (.str .fmt 1) => .wrSD1FMT lo w v
  | .reg (.str .bdpl 1) => .wrSD1BDPL lo w v
  | .reg (.str .bdpu 1) => .wrSD1BDPU lo w v
  | .reg (.str .ctl 2) => .wrSD2CTL lo w v
  | .reg (.str .sts 2) => .wrSD2STS lo w v
  | .reg (.str .lpib 2) => .wrSD2LPIB lo w v
  | .reg (.str .cbl 2) => .wrSD2CBL lo w v
  | .reg (.str .lvi 2) => .wrSD2LVI lo w v
  | .reg (.str .fifow 2) => .wrSD2FIFOW lo w v
  | .reg (.str .fifos 2) => .wrSD2FIFOS lo w v
  | .reg (.str .fmt 2) => .wrSD2FMT lo w v
  | .reg (.str .bdpl 2) => .wrSD2BDPL lo w v
  | .reg (.str .bdpu 2) => .wrSD2BDPU lo w v
  | .reg (.str .ctl 3) => .wrSD3CTL lo w v
  | .reg (.str .sts 3) => .wrSD3STS lo w v
  | .reg (.str .lpib 3) => .wrSD3LPIB lo w v
  | .reg (.str .cbl 3) => .wrSD3CBL lo w v
  | .reg (.str .lvi 3) => .wrSD3LVI lo w v
  | .reg (.str .fifow 3) => .wrSD3FIFOW lo w v
  | .reg (.str .fifos 3) => .wrSD3FIFOS lo w v
  | .reg (.str .fmt 3) => .wrSD3FMT lo w v
  | .reg (.str .bdpl 3) => .wrSD3BDPL lo w v
  | .reg (.str .bdpu 3) => .wrSD3BDPU lo w v
  | .reg (.str .ctl 4) => .wrSD4CTL lo w v
  | .reg (.str .sts 4) => .wrSD4STS lo w v
  | .reg (.str .lpib 4) => .wrSD4LPIB lo w v
  | .reg (.str .cbl 4) => .wrSD4CBL lo w v
  | .reg (.str .lvi 4) => .wrSD4LVI lo w v
  | .reg (.str .fifow 4) => .wrSD4FIFOW lo w v
  | .reg (.str .fifos 4) => .wrSD4FIFOS lo w v
  | .reg (.str .fmt 4) => .wrSD4FMT lo w v
  | .reg (.str .bdpl 4) => .wrSD4BDPL lo w v
  | .reg (.str .bdpu 4) => .wrSD4BDPU lo w v
  | .reg (.str .ctl 5) => .wrSD5CTL lo w v
  | .reg (.str .sts 5) => .wrSD5STS lo w v
  | .reg (.str .lpib 5) => .wrSD5LPIB lo w v
  | .reg (.str .cbl 5) => .wrSD5CBL lo w v
  | .reg (.str .lvi 5) => .wrSD5LVI lo w v
  | .reg (.str .fifow 5) => .wrSD5FIFOW lo w v
  | .reg (.str .fifos 5) => .wrSD5FIFOS lo w v
  | .reg (.str .fmt 5) => .wrSD5FMT lo w v
  | .reg (.str .bdpl 5) => .wrSD5BDPL lo w v
  | .reg (.str .bdpu 5) => .wrSD5BDPU lo w v
  | .reg (.str .ctl 6) => .wrSD6CTL lo w v
  | .reg (.str .sts 6) => .wrSD6STS lo w v
  | .reg (.str .lpib 6) => .wrSD6LPIB lo w v
  | .reg (.str .cbl 6) => .wrSD6CBL lo w v
  | .reg (.str .lvi 6) => .wrSD6LVI lo w v
  | .reg (.str .fifow 6) => .wrSD6FIFOW lo w v
  | .reg (.str .fifos 6) => .wrSD6FIFOS lo w v
  | .reg (.str .fmt 6) => .wrSD6FMT lo w v
  | .reg (.str .bdpl 6) => .wrSD6BDPL lo w v
  | .reg (.str .bdpu 6) => .wrSD6BDPU lo w v
  | .reg (.str .ctl 7) => .wrSD7CTL lo w v
  | .reg (.str .sts 7) => .wrSD7STS lo w v
  | .reg (.str .lpib 7) => .wrSD7LPIB lo w v
  | .reg (.str .cbl 7) => .wrSD7CBL lo w v
  | .reg (.str .lvi 7) => .wrSD7LVI lo w v
  | .reg (.str .fifow 7) => .wrSD7FIFOW lo w v
  | .reg (.str .fifos 7) => .wrSD7FIFOS lo w v
  | .reg (.str .fmt 7) => .wrSD7FMT lo w v
  | .reg (.str .bdpl 7) => .wrSD7BDPL lo w v
  | .reg (.str .bdpu 7) => .wrSD7BDPU lo w v
  | .dup .walclk => .wrWALCLKAlias lo w v
  | .dup (.lpib 0) => .wrSD0LPIBAlias lo w v
  | .dup (.lpib 1) => .wrSD1LPIBAlias lo w v
  | .dup (.lpib 2) => .wrSD2LPIBAlias lo w v
  | .dup (.lpib 3) => .wrSD3LPIBAlias lo w v
  | .dup (.lpib 4) => .wrSD4LPIBAlias lo w v
  | .dup (.lpib 5) => .wrSD5LPIBAlias lo w v
  | .dup (.lpib 6) => .wrSD6LPIBAlias lo w v
  | .dup (.lpib 7) => .wrSD7LPIBAlias lo w v

/-- The instruction of a form. -/
def Instr.ofForm : Form → Instr
  | .rd t lo w => rdRow t lo w
  | .wr t lo w v => wrRow t lo w v
  | .rdUnmapped off w => .rdUnmapped off w
  | .wrUnmapped off w v => .wrUnmapped off w v
  | .drain => .drain
  | .tick n => .tick n
  | .sink n k => .sink n k
  | .time d => .time d
  | .save => .save
  | .restore => .restore
  | .poweroff => .poweroff
  | .poreset => .poreset

end Sys2Proof
end

