-- ==== Sys2Proof/WellFormed.lean ====
section
/-! DEFINITION. Which operations exist (20_memory.md R73, 30_encoding.md R100, R101): the checks an
instruction term must pass to be one of the controller's operations. -/

namespace Sys2Proof

/-- The transaction stays inside the window: `off + w <= WINDOW` (R73, R100). -/
def inWindow (off : Nat) (w : Width) : Bool := decide (off + w.bytes ≤ window)

/-- A written value has `8*w` bits (R100; R101: "bits at and above `8*w` must be 0"). -/
def valueFits (w : Width) (v : Word) : Bool := decide (v.toNat < 2 ^ (8 * w.bytes))

/-- The access starts inside the register of its row. -/
def startsInside (t : Target) (lo : Fin 4) : Bool := decide (lo.val < t.width)

/-- No row covers the offset (40_mmio_dispatch.md R134). -/
def uncovered (off : Nat) : Bool := (targetAt off).isNone

/-- The stream ordinal is below `N` (R101). -/
def ordinalOk (n : BitVec 4) : Bool := decide (n.toNat < nStreams)

/-- The checks of a form. -/
def Form.wf : Form → Bool
  | .rd t lo w => startsInside t lo && inWindow (t.off + lo.val) w
  | .wr t lo w v => startsInside t lo && inWindow (t.off + lo.val) w && valueFits w v
  | .rdUnmapped off w => uncovered off.toNat && inWindow off.toNat w
  | .wrUnmapped off w v => uncovered off.toNat && inWindow off.toNat w && valueFits w v
  | .tick n => ordinalOk n
  | .sink n _ => ordinalOk n
  | .drain => true
  | .time _ => true
  | .save => true
  | .restore => true
  | .poweroff => true
  | .poreset => true

/-- An instruction is one of the controller's operations. -/
def Instr.wf (i : Instr) : Bool := i.form.wf

end Sys2Proof
end

