-- ==== Sys2Proof/Decode.lean ====
section
/-! DEFINITION. The operation word (OPW) of 30_encoding.md R101: a decoder, total on 64-bit words, that
refuses by name, and after it the encoder. -/

namespace Sys2Proof

/-- Why a word encodes no operation (30_encoding.md R101, R111). -/
inductive DecodeError
  /-- KIND is one of 0xA..0xF. -/
  | reservedKind
  /-- The width of a RD or WR is not 1, 2, 3 or 4. -/
  | badWidth
  /-- A field that must be 0 is not (for a WR: a bit of DATA at or above `8*w`). -/
  | nonZeroField
  /-- `OFF + w > WINDOW`. -/
  | pastWindow
  /-- The ordinal of a TICK or SINK is `N` or above. -/
  | badOrdinal
  deriving DecidableEq, Repr

/-- The KIND field, bits 63:60 (R101). -/
def opwKind (x : Quad) : Nat := x.toNat / 2 ^ 60

/-- The A field, bits 59:56 (R101). -/
def opwA (x : Quad) : Nat := x.toNat / 2 ^ 56 % 2 ^ 4

/-- The OFF field, bits 55:32 (R101). -/
def opwOff (x : Quad) : Nat := x.toNat / 2 ^ 32 % 2 ^ 24

/-- The DATA field, bits 31:0 (R101). -/
def opwData (x : Quad) : Nat := x.toNat % 2 ^ 32

/-- The word of the four fields (R101). -/
def opwWord (kind a off data : Nat) : Quad :=
  BitVec.ofNat 64 (kind * 2 ^ 60 + a * 2 ^ 56 + off * 2 ^ 32 + data)

/-- The width that the A field of a RD or WR names. -/
def widthOf : Nat → Option Width
  | 1 => some .w1
  | 2 => some .w2
  | 3 => some .w3
  | 4 => some .w4
  | _ => none

/-- The form of a read at a window offset: the row whose register covers its first byte, or the
unmapped row (R103, R104). -/
def readForm (off : Nat) (w : Width) : Form :=
  match targetAt off with
  | some (t, j) => .rd t (Fin.ofNat 4 j) w
  | none => .rdUnmapped (BitVec.ofNat 24 off) w

/-- The form of a write at a window offset. -/
def writeForm (off : Nat) (w : Width) (v : Word) : Form :=
  match targetAt off with
  | some (t, j) => .wr t (Fin.ofNat 4 j) w v
  | none => .wrUnmapped (BitVec.ofNat 24 off) w v

/-- Decoding of a RD word: KIND 0x0 (R101). -/
def decodeRead (a off data : Nat) : Except DecodeError Form :=
  match widthOf a with
  | none => .error .badWidth
  | some w =>
    if data ≠ 0 then .error .nonZeroField
    else if window < off + w.bytes then .error .pastWindow
    else .ok (readForm off w)

/-- Decoding of a WR word: KIND 0x1 (R101). -/
def decodeWrite (a off data : Nat) : Except DecodeError Form :=
  match widthOf a with
  | none => .error .badWidth
  | some w =>
    if 2 ^ (8 * w.bytes) ≤ data then .error .nonZeroField
    else if window < off + w.bytes then .error .pastWindow
    else .ok (writeForm off w (BitVec.ofNat 32 data))

/-- Decoding of a word whose A, OFF and DATA fields must all be 0 (R101). -/
def decodePlain (f : Form) (a off data : Nat) : Except DecodeError Form :=
  if a ≠ 0 ∨ off ≠ 0 ∨ data ≠ 0 then .error .nonZeroField else .ok f

/-- Decoding of a TICK word: A is the ordinal (R101). -/
def decodeTick (a off data : Nat) : Except DecodeError Form :=
  if nStreams ≤ a then .error .badOrdinal
  else if off ≠ 0 ∨ data ≠ 0 then .error .nonZeroField
  else .ok (.tick (BitVec.ofNat 4 a))

/-- Decoding of a SINK word: A is the ordinal, DATA the byte count (R101). -/
def decodeSink (a off data : Nat) : Except DecodeError Form :=
  if nStreams ≤ a then .error .badOrdinal
  else if off ≠ 0 then .error .nonZeroField
  else .ok (.sink (BitVec.ofNat 4 a) (BitVec.ofNat 32 data))

/-- Decoding of a TIME word: DATA is the advance (R101). -/
def decodeTime (a off data : Nat) : Except DecodeError Form :=
  if a ≠ 0 ∨ off ≠ 0 then .error .nonZeroField else .ok (.time (BitVec.ofNat 32 data))

/-- Decoding of a word into a form, by its KIND (R101). -/
def decodeForm (x : Quad) : Except DecodeError Form :=
  match opwKind x with
  | 0x0 => decodeRead (opwA x) (opwOff x) (opwData x)
  | 0x1 => decodeWrite (opwA x) (opwOff x) (opwData x)
  | 0x2 => decodePlain .drain (opwA x) (opwOff x) (opwData x)
  | 0x3 => decodeTick (opwA x) (opwOff x) (opwData x)
  | 0x4 => decodeSink (opwA x) (opwOff x) (opwData x)
  | 0x5 => decodeTime (opwA x) (opwOff x) (opwData x)
  | 0x6 => decodePlain .save (opwA x) (opwOff x) (opwData x)
  | 0x7 => decodePlain .restore (opwA x) (opwOff x) (opwData x)
  | 0x8 => decodePlain .poweroff (opwA x) (opwOff x) (opwData x)
  | 0x9 => decodePlain .poreset (opwA x) (opwOff x) (opwData x)
  | _ => .error .reservedKind

/-- The decoder of operation words (30_encoding.md R101): total, refusing by name. -/
def decode (x : Quad) : Except DecodeError Instr := (decodeForm x).map Instr.ofForm

/-- The word of a form (R101). -/
def encodeForm : Form → Quad
  | .rd t lo w => opwWord 0x0 w.bytes (t.off + lo.val) 0
  | .wr t lo w v => opwWord 0x1 w.bytes (t.off + lo.val) v.toNat
  | .rdUnmapped off w => opwWord 0x0 w.bytes off.toNat 0
  | .wrUnmapped off w v => opwWord 0x1 w.bytes off.toNat v.toNat
  | .drain => opwWord 0x2 0 0 0
  | .tick n => opwWord 0x3 n.toNat 0 0
  | .sink n k => opwWord 0x4 n.toNat 0 k.toNat
  | .time d => opwWord 0x5 0 0 d.toNat
  | .save => opwWord 0x6 0 0 0
  | .restore => opwWord 0x7 0 0 0
  | .poweroff => opwWord 0x8 0 0 0
  | .poreset => opwWord 0x9 0 0 0

/-- The encoder: the operation word of an instruction (R101). -/
def encode (i : Instr) : Quad := encodeForm i.form

/-- The instruction the decoder reads from the first `nbits` bits of `w`, every higher bit of the
operation word being 0; `none` where the decoder refuses, or where `w` does not fit one word. -/
def decodeTableWord (nbits w : Nat) : Option Instr :=
  let x := w % 2 ^ nbits
  if 2 ^ 64 ≤ x then none
  else
    match decode (BitVec.ofNat 64 x) with
    | .ok i => some i
    | .error _ => none

end Sys2Proof
end

