-- ==== Sys2Proof/Machine/State.lean ====
section
/-! DEFINITION. The state of the controller (10_state.md sections 2 to 7), the reasons a step can stop,
and the state after PORESET. Fields that are the model's own, not the spec's, say so. -/

namespace Sys2Proof.Machine

/-- The register value array of 10_state.md R22: one slot per register, by id. Every access goes through
the accessors of Machine/Ops.lean, which truncate to the register's width (R8). -/
abbrev RegFile := Vector Word 106

/-- Guest memory, 20_memory.md R75: a partial map from address to byte, as the list of the backed bytes
with strictly rising addresses. An address that is not listed is not backed: an access to it fails. -/
abbrev Memory := List Host.Cell

/-- The addresses of the cells strictly rise. -/
def ascending : List Host.Cell → Bool
  | [] => true
  | [_] => true
  | a :: b :: rest => decide (a.1 < b.1) && ascending (b :: rest)

/-- The canonical form of guest memory: addresses strictly rising and below 2^64 (R70, R75). -/
def Memory.wf (m : Memory) : Bool := ascending m && m.all fun c => decide (c.1 < 2 ^ 64)

/-- A buffer descriptor as fetched, 10_state.md R59, 30_encoding.md R108. -/
structure Bdle where
  addr : Quad
  len : Word
  ioc : Bool
  deriving DecidableEq, Repr

/-- A step of the resolved schedule, 10_state.md R59, 30_encoding.md R109. -/
structure Step where
  ticks : Nat
  bytes : Nat
  loops : Nat
  first : Nat
  count : Nat
  deriving DecidableEq, Repr

/-- The state of one stream's DMA engine, `dma[n]` of 10_state.md R59. -/
structure Dma where
  /-- The engine is armed. -/
  running : Bool
  /-- The reset flag; equals `SDCTL(n).SRST` in every reachable state (R61 f). -/
  inReset : Bool
  /-- Current BDL entry. -/
  curEntry : Nat
  /-- Byte offset inside the current entry. -/
  curOff : Nat
  /-- The fetched buffer descriptors. -/
  bdl : List Bdle
  /-- The resolved schedule. -/
  sched : List Step
  /-- Current schedule step. -/
  schedIdx : Nat
  /-- Current loop within the step. -/
  schedLoop : Nat
  /-- The pending-interrupt count. -/
  pendingIrq : Nat
  /-- Time of the most recently completed transfer. -/
  tsLast : Nat
  /-- Time at which the next TICK is due. -/
  tsNext : Nat
  /-- The internal byte ring, oldest byte first (R60 admits a list). -/
  ring : List Byte
  /-- The sink accepted `setFormat` and `start` for the current run. -/
  sinkOk : Bool
  /-- The tag bound at the last start. -/
  boundTag : BitVec 4
  deriving DecidableEq, Repr

/-- The reset column of 10_state.md R59. -/
def Dma.reset : Dma where
  running := false
  inReset := false
  curEntry := 0
  curOff := 0
  bdl := []
  sched := []
  schedIdx := 0
  schedLoop := 0
  pendingIrq := 0
  tsLast := 0
  tsNext := 0
  ring := []
  sinkOk := false
  boundTag := 0

/-- The classes of 60_exceptions.md R320. -/
inductive ErrorClass
  | guestProtocolViolation
  | resourceExhaustion
  | timingViolation
  | backendFailure
  | fatal
  deriving DecidableEq, Repr

/-- How often each class of R320 has been raised (R63, R320: diagnostic, invisible to the guest). -/
structure ErrorCounts where
  guestProtocolViolation : Nat
  resourceExhaustion : Nat
  timingViolation : Nat
  backendFailure : Nat
  fatal : Nat
  deriving DecidableEq, Repr

/-- The per-stream diagnostic counters of 10_state.md R63. -/
structure StreamCounts where
  skippedIrqPending : Nat
  xrun : Nat
  flowError : Nat
  startRefused : Nat
  deriving DecidableEq, Repr

/-- The diagnostic counters of 10_state.md R63, and the number of times each class was raised. -/
structure Counts where
  unmappedWrite : Nat
  reservedBits : Nat
  droppedWhileRunning : Nat
  ringSizeIgnored : Nat
  ringResetIgnored : Nat
  truncated : Nat
  blockedInReset : Nat
  streams : Vector StreamCounts 8
  errors : ErrorCounts
  deriving DecidableEq, Repr

/-- Every counter at 0 (R63, R360). -/
def Counts.zero : Counts where
  unmappedWrite := 0
  reservedBits := 0
  droppedWhileRunning := 0
  ringSizeIgnored := 0
  ringResetIgnored := 0
  truncated := 0
  blockedInReset := 0
  streams := Vector.replicate 8 ⟨0, 0, 0, 0⟩
  errors := ⟨0, 0, 0, 0, 0⟩

/-- The saved position of one stream, `perStream[n]` of 45_host_ops.md R308. -/
structure SavedStream where
  curEntry : Nat
  curOff : Nat
  inReset : Bool
  tsNext : Nat
  deriving DecidableEq, Repr

/-- The persisted record of 30_encoding.md R110, 45_host_ops.md R308. -/
structure Snapshot where
  regs : RegFile
  perStream : Vector SavedStream 8
  ringContents : Vector (Option (List Byte)) 8
  wcEpoch : Nat
  irqLevel : Bool
  deriving DecidableEq, Repr

/-- The calls the controller makes to the audio sink (45_host_ops.md R305). -/
inductive SinkCall
  | setFormat (n : Stream) (rate channels bits : Nat)
  | start (n : Stream)
  | stop (n : Stream)
  deriving DecidableEq, Repr

/-- The answers of the external agents (20_memory.md R92), the MODEL's own fields. An answer is taken
from the head of its list while the list lasts; after that it is the opaque constant of Config.lean
applied to the number of answers taken so far. -/
structure Oracle where
  /-- Answers of `Codec.lookup` supplied in advance; `none` is `NotFound`. -/
  codec : List (Option Quad)
  /-- How many lookups were made. -/
  codecSeq : Nat
  /-- Answers of `Sink.setFormat` and `Sink.start` supplied in advance. -/
  sink : List Bool
  /-- How many sink calls were answered. -/
  sinkSeq : Nat
  /-- Bytes produced by the sinks of input streams supplied in advance. -/
  capture : List Byte
  /-- How many bytes were produced. -/
  captureSeq : Nat
  deriving DecidableEq, Repr

/-- What the controller shows the outside, the MODEL's own record of it: results returned to the issuer
of an operation, the events on the interrupt wire, the sink calls, and the bytes a sink removed. -/
structure Outputs where
  /-- The value the last RD returned (40_mmio_dispatch.md R131). -/
  readData : Word
  /-- The number of bytes the last SINK returned (45_host_ops.md R303). -/
  sinkMoved : Nat
  /-- Events on the interrupt wire, newest first: `true` raises it, `false` lowers it (R331). -/
  wire : List Bool
  /-- Calls made to the sinks, newest first (R305). -/
  sinkCalls : List SinkCall
  /-- Bytes each output stream's sink has removed, oldest first (R303, R304). -/
  rendered : Vector (List Byte) 8
  deriving DecidableEq, Repr

/-- The state of the controller, its environment's data, and the operations still to be performed. -/
structure State where
  /-- The implementation parameters (R5); never written. -/
  cfg : Config
  /-- The register value array (R22 to R24). -/
  regs : RegFile
  /-- The streams' DMA engines (R59). -/
  dma : Vector Dma 8
  /-- The command mirror (R58). -/
  corbBuf : Vector Word 256
  /-- The response mirror (R58). -/
  rirbBuf : Vector Quad 256
  /-- Responses appended since the last flush (R58). -/
  respPending : Nat
  /-- A DRAIN has been requested and not yet run (R58). -/
  corbKick : Bool
  /-- The level last driven on the interrupt wire (R58). -/
  irqLevel : Bool
  /-- The wall-clock epoch (R58). -/
  wcEpoch : Nat
  /-- The time base (R58, R301). -/
  now : Nat
  /-- The diagnostic counters (R63). -/
  counts : Counts
  /-- Guest memory (R70 b, R75). -/
  mem : Memory
  /-- The record of the most recent SAVE (R101, R308). -/
  saved : Option Snapshot
  /-- The external agents' answers (R92). -/
  oracle : Oracle
  /-- What the outside has been shown. -/
  out : Outputs
  /-- The operation words the agents will perform, in their total order (R86, R101). -/
  pending : List Quad
  deriving DecidableEq, Repr

/-- Why a run stops with a fault. The spec has no fault (93_implementation_defined.md: "No point is
treated as fault or stuck"); the one constructor stands for states that no run reaches. -/
inductive Fault
  /-- Raised by TICK alone, in a state that breaks the invariants of an armed stream (10_state.md R61
  b, c, h): a schedule index past the schedule, a cyclic buffer length of 0, or a step that the list's
  entries cannot supply, for each of which the pseudocode of R272 and R274 has no value. Safe: the
  model stops. -/
  | armedStreamBroken (n : Stream)
  deriving DecidableEq, Repr

/-- Why a step is refused. -/
inductive Refusal
  /-- An instruction without a meaning yet; raised by an arm of `exec`. Safe. No arm raises it. -/
  | notModelled (mnemonic : String)
  /-- Raised by `step` when no operation is pending: the step relation has exactly the operations of
  00_scope.md R4, and none is offered. Safe. -/
  | noOperation
  /-- Raised by `step` when the next word encodes no operation (30_encoding.md R101). Safe. -/
  | undecodable (e : DecodeError)
  /-- Raised by DRAIN when `corbKick` is not set: the operation is not enabled (42_corb_rirb.md R211,
  45_host_ops.md R302 a). Safe. -/
  | drainNotEnabled
  /-- Raised by TICK when the stream's engine is not armed or the tick is not due: the operation is not
  enabled (44_stream_dma.md R271, 45_host_ops.md R302 a). Safe. -/
  | tickNotEnabled
  /-- Raised by TICK and SINK for an ordinal of 8 or above, which no word decodes to (R101). Safe. -/
  | badOrdinal
  /-- Raised by RESTORE when no SAVE came before (30_encoding.md R101, U26). Safe. -/
  | restoreWithoutSave
  /-- Raised by TIME when `now` would reach 2^64: 45_host_ops.md R300 assumes that no run gets there, and the
  refusal is the model's, from 93_implementation_defined.md U25 (log entry 6). Safe. -/
  | timeExhausted
  deriving DecidableEq, Repr

/-- Every register at its reset value (10_state.md R23, R24). -/
def resetRegs : RegFile := ⟨(allRegs.map Reg.resetVal).toArray, by rfl⟩

/-- Nothing supplied in advance, nothing asked yet. -/
def Oracle.fresh : Oracle where
  codec := []
  codecSeq := 0
  sink := []
  sinkSeq := 0
  capture := []
  captureSeq := 0

/-- Nothing shown yet. -/
def Outputs.fresh : Outputs where
  readData := 0
  sinkMoved := 0
  wire := []
  sinkCalls := []
  rendered := Vector.replicate 8 []

/-- The controller right after PORESET as the first operation of a run (70_reset_and_hazards.md R360,
10_state.md R65), with the default parameters of R5, no guest memory backed and no operation pending. -/
def State.reset : State where
  cfg := Config.default
  regs := resetRegs
  dma := Vector.replicate 8 Dma.reset
  corbBuf := Vector.replicate 256 0
  rirbBuf := Vector.replicate 256 0
  respPending := 0
  corbKick := false
  irqLevel := false
  wcEpoch := 0
  now := 0
  counts := Counts.zero
  mem := []
  saved := none
  oracle := Oracle.fresh
  out := Outputs.fresh
  pending := []

end Sys2Proof.Machine
end

