-- ==== Sys2Proof/Machine/Ops.lean ====
section
/-! DEFINITION. The named operations over the state: the register value array, the byte order and the
guest-memory primitives of 20_memory.md, the streams' records, the diagnostic counters, the error
classes, the interrupt wire, and the external agents' answers. -/

namespace Sys2Proof.Machine

/-! ### Registers (00_scope.md R8) -/

/-- `reg[r]`, the raw stored value. -/
def RegFile.rd (f : RegFile) (r : Reg) : Word := f.get r.slot

/-- `reg[r] <- v`, truncated to the register's width. -/
def RegFile.put (f : RegFile) (r : Reg) (v : Word) : RegFile :=
  f.set r.slot.val (v &&& r.fullMask) r.slot.isLt

/-- `reg[r]` of a state. -/
def State.reg (s : State) (r : Reg) : Word := s.regs.rd r

/-- `reg[r] <- v` on a state. -/
def State.setReg (s : State) (r : Reg) (v : Word) : State := { s with regs := s.regs.put r v }

/-- Set bits of a register: `reg[r] <- reg[r] | bits`. -/
def State.orReg (s : State) (r : Reg) (bits : Word) : State := s.setReg r (s.reg r ||| bits)

/-- Replace the field of a register under a mask by the same field of `v`. -/
def State.setField (s : State) (r : Reg) (mask v : Word) : State :=
  s.setReg r ((s.reg r &&& ~~~mask) ||| (v &&& mask))

/-! ### Byte order (20_memory.md R72: little-endian) -/

/-- The value of a byte sequence whose first byte is the least significant. -/
def leValue : List Byte → Nat
  | [] => 0
  | b :: rest => b.toNat + 256 * leValue rest

/-- The `k` bytes of a value, least significant first. -/
def leBytes : Nat → Nat → List Byte
  | 0, _ => []
  | k + 1, v => BitVec.ofNat 8 v :: leBytes k (v / 256)

/-- `LE32`. -/
def le32 (bs : List Byte) : Word := BitVec.ofNat 32 (leValue bs)

/-- `LE64`. -/
def le64 (bs : List Byte) : Quad := BitVec.ofNat 64 (leValue bs)

/-- `toLE64`. -/
def toLe64 (v : Quad) : List Byte := leBytes 8 v.toNat

/-- Bytes `i .. i+n-1` of a sequence. -/
def slice (bs : List Byte) (i n : Nat) : List Byte := (bs.drop i).take n

/-! ### Guest memory (20_memory.md R75, R76) -/

/-- The byte at an address; `none` where the address is not backed. -/
def Memory.byte : Memory → Nat → Option Byte
  | [], _ => none
  | c :: rest, a => if c.1 = a then some c.2 else Memory.byte rest a

/-- The bytes from an address upward, or `none` if one of them is not backed. -/
def Memory.readRun (m : Memory) : Nat → Nat → Option (List Byte)
  | _, 0 => some []
  | a, n + 1 =>
    match Memory.byte m a, Memory.readRun m (a + 1) n with
    | some b, some rest => some (b :: rest)
    | _, _ => none

/-- `MemRead(addr, n)`, 20_memory.md R75; `none` is `fail`. (The split on the memory keeps a read of an
unknown memory stuck at once when Lean's kernel evaluates it; `Memory.read_eq` is the definition without.) -/
def Memory.read (m : Memory) (addr n : Nat) : Option (List Byte) :=
  match m with
  | [] => if n = 0 then some [] else none
  | _ :: _ =>
    if n = 0 then some []
    else if 2 ^ 64 < addr + n then none
    else m.readRun addr n

/-- Store one byte at a backed address; an address that is not backed stays so. -/
def Memory.poke (m : Memory) (a : Nat) (b : Byte) : Memory :=
  m.map fun c => if c.1 = a then (c.1, b) else c

/-- Store a byte sequence from an address upward. -/
def Memory.writeRun (m : Memory) : Nat → List Byte → Memory
  | _, [] => m
  | a, b :: rest => (m.poke a b).writeRun (a + 1) rest

/-- `MemWrite(addr, n, bytes)`, 20_memory.md R76; `none` is `fail`, with nothing stored. -/
def Memory.write (m : Memory) (addr : Nat) (bytes : List Byte) : Option Memory :=
  match m.read addr bytes.length with
  | none => none
  | some _ => some (m.writeRun addr bytes)

/-! ### Streams -/

/-- `dma[n]`. -/
def State.dmaOf (s : State) (n : Stream) : Dma := s.dma.get n

/-- `dma[n] <- d`. -/
def State.setDma (s : State) (n : Stream) (d : Dma) : State :=
  { s with dma := s.dma.set n.val d n.isLt }

/-! ### Diagnostic counters and error classes (10_state.md R63, 60_exceptions.md R320) -/

/-- `count[unmappedWrite] += 1`. -/
def State.countUnmappedWrite (s : State) : State :=
  { s with counts := { s.counts with unmappedWrite := s.counts.unmappedWrite + 1 } }

/-- `count[reservedBits] += 1`. -/
def State.countReservedBits (s : State) : State :=
  { s with counts := { s.counts with reservedBits := s.counts.reservedBits + 1 } }

/-- `count[droppedWhileRunning] += 1`. -/
def State.countDroppedWhileRunning (s : State) : State :=
  { s with counts := { s.counts with droppedWhileRunning := s.counts.droppedWhileRunning + 1 } }

/-- `count[ringSizeIgnored] += 1`. -/
def State.countRingSizeIgnored (s : State) : State :=
  { s with counts := { s.counts with ringSizeIgnored := s.counts.ringSizeIgnored + 1 } }

/-- `count[ringResetIgnored] += 1`. -/
def State.countRingResetIgnored (s : State) : State :=
  { s with counts := { s.counts with ringResetIgnored := s.counts.ringResetIgnored + 1 } }

/-- `count[blockedInReset] += 1`. -/
def State.countBlockedInReset (s : State) : State :=
  { s with counts := { s.counts with blockedInReset := s.counts.blockedInReset + 1 } }

/-- Replace the counters of a stream. -/
def State.setStreamCounts (s : State) (n : Stream) (c : StreamCounts) : State :=
  { s with counts := { s.counts with streams := s.counts.streams.set n.val c n.isLt } }

/-- The counters of a stream. -/
def State.streamCounts (s : State) (n : Stream) : StreamCounts := s.counts.streams.get n

/-- `count[skippedIrqPending(n)] += 1`. -/
def State.countSkipped (s : State) (n : Stream) : State :=
  s.setStreamCounts n { s.streamCounts n with skippedIrqPending := (s.streamCounts n).skippedIrqPending + 1 }

/-- `count[xrun(n)] += 1`. -/
def State.countXrun (s : State) (n : Stream) : State :=
  s.setStreamCounts n { s.streamCounts n with xrun := (s.streamCounts n).xrun + 1 }

/-- `count[flowError(n)] += 1`. -/
def State.countFlowError (s : State) (n : Stream) : State :=
  s.setStreamCounts n { s.streamCounts n with flowError := (s.streamCounts n).flowError + 1 }

/-- `count[startRefused(n)] += 1`. -/
def State.countStartRefused (s : State) (n : Stream) : State :=
  s.setStreamCounts n { s.streamCounts n with startRefused := (s.streamCounts n).startRefused + 1 }

/-- One more error of a class. -/
def ErrorCounts.add (e : ErrorCounts) : ErrorClass → ErrorCounts
  | .guestProtocolViolation => { e with guestProtocolViolation := e.guestProtocolViolation + 1 }
  | .resourceExhaustion => { e with resourceExhaustion := e.resourceExhaustion + 1 }
  | .timingViolation => { e with timingViolation := e.timingViolation + 1 }
  | .backendFailure => { e with backendFailure := e.backendFailure + 1 }
  | .fatal => { e with fatal := e.fatal + 1 }

/-- `raise <Class>`, 60_exceptions.md R320: this controller's only "exception". It records the class and
never transfers control; the recovery is spelled out where it is raised. -/
def State.raise (s : State) (c : ErrorClass) : State :=
  { s with counts := { s.counts with errors := s.counts.errors.add c } }

/-- Raise a class a number of times. -/
def State.raiseTimes (s : State) (c : ErrorClass) : Nat → State
  | 0 => s
  | k + 1 => (s.raise c).raiseTimes c k

/-! ### The interrupt wire (60_exceptions.md R331, R334) -/

/-- Drive the interrupt wire to a level: one output event, and only on a change. Raising the wire is all
the controller does to take an interrupt (R334), lowering it all it does to end one (R335). -/
def State.driveWire (s : State) (level : Bool) : State :=
  if s.irqLevel = level then s
  else { s with irqLevel := level, out := { s.out with wire := level :: s.out.wire } }

/-! ### The sequence of operations (30_encoding.md R101) -/

/-- The next operation word of the sequence, and the state with it taken. -/
def State.takeWord (s : State) : Option (Quad × State) :=
  match s.pending with
  | [] => none
  | x :: rest => some (x, { s with pending := rest })

/-- An operation word put before the sequence. -/
def State.offerWord (s : State) (x : Quad) : State := { s with pending := x :: s.pending }

/-! ### External agents (20_memory.md R92) -/

/-- `Codec.lookup(cmd)`: the answer, `none` for `NotFound`, and the state with the answer taken. -/
def State.codecLookup (s : State) (cmd : Word) : Option Quad × State :=
  match s.oracle.codec with
  | a :: rest => (a, { s with oracle := { s.oracle with codec := rest, codecSeq := s.oracle.codecSeq + 1 } })
  | [] => (Config.codecAnswer s.oracle.codecSeq cmd,
      { s with oracle := { s.oracle with codecSeq := s.oracle.codecSeq + 1 } })

/-- Record a call to a sink (45_host_ops.md R305). -/
def State.recordCall (s : State) (c : SinkCall) : State :=
  { s with out := { s.out with sinkCalls := c :: s.out.sinkCalls } }

/-- A call to a sink that is answered with accept (`true`) or reject. -/
def State.sinkAsk (s : State) (c : SinkCall) : Bool × State :=
  let s := s.recordCall c
  match s.oracle.sink with
  | a :: rest => (a, { s with oracle := { s.oracle with sink := rest, sinkSeq := s.oracle.sinkSeq + 1 } })
  | [] => (Config.sinkAnswer s.oracle.sinkSeq,
      { s with oracle := { s.oracle with sinkSeq := s.oracle.sinkSeq + 1 } })

/-- The next byte an input stream's sink produces. -/
def Oracle.nextCapture (o : Oracle) : Byte × Oracle :=
  match o.capture with
  | b :: rest => (b, { o with capture := rest, captureSeq := o.captureSeq + 1 })
  | [] => (Config.captureByte o.captureSeq, { o with captureSeq := o.captureSeq + 1 })

/-- The next `m` bytes an input stream's sink produces, in order. -/
def Oracle.takeCapture (o : Oracle) : Nat → List Byte × Oracle
  | 0 => ([], o)
  | m + 1 =>
    let (b, o) := o.nextCapture
    let (rest, o) := o.takeCapture m
    (b :: rest, o)

end Sys2Proof.Machine
end

