-- ==== Sys2Proof/Machine/Operands.lean ====
section
/-! DEFINITION. Operand forms: the fields and derived quantities of the registers (10_state.md R27 to
R57, R66) and the assembly of a register value from the bytes of a transaction (30_encoding.md R105,
40_mmio_dispatch.md R136). -/

namespace Sys2Proof.Machine

/-! ### Fields of registers -/

/-- GCTL.CRST (R30). -/
def RegFile.crst (f : RegFile) : Bool := (f.rd (.glob .gctl)).getLsbD 0

/-- GCTL.UNSOL (R30). -/
def RegFile.unsol (f : RegFile) : Bool := (f.rd (.glob .gctl)).getLsbD 8

/-- INTCTL.GIE (R34). -/
def RegFile.gie (f : RegFile) : Bool := (f.rd (.glob .intctl)).getLsbD 31

/-- INTCTL.CIE (R34). -/
def RegFile.cie (f : RegFile) : Bool := (f.rd (.glob .intctl)).getLsbD 30

/-- INTCTL.SIE[n] (R34). -/
def RegFile.sie (f : RegFile) (n : Stream) : Bool := (f.rd (.glob .intctl)).getLsbD n.val

/-- CORBCTL.RUN: the ring engine is Running (R40, R190). -/
def RegFile.corbRun (f : RegFile) : Bool := (f.rd (.glob .corbctl)).getLsbD 1

/-- CORBWP.WP (R38). -/
def RegFile.corbWp (f : RegFile) : Nat := (f.rd (.glob .corbwp) &&& 0xFF).toNat

/-- CORBRP.RP (R39). -/
def RegFile.corbRp (f : RegFile) : Nat := (f.rd (.glob .corbrp) &&& 0xFF).toNat

/-- CORBRP.RST: a pointer reset waits for its acknowledgement (R39, R197). -/
def RegFile.corbRst (f : RegFile) : Bool := (f.rd (.glob .corbrp)).getLsbD 15

/-- RIRBWP.WP (R44). -/
def RegFile.rirbWp (f : RegFile) : Nat := (f.rd (.glob .rirbwp) &&& 0xFF).toNat

/-- RIRBCTL.RINTCTL (R46). -/
def RegFile.rintctl (f : RegFile) : Bool := (f.rd (.glob .rirbctl)).getLsbD 0

/-- RIRBCTL.DMAEN (R46). -/
def RegFile.rirbDmaen (f : RegFile) : Bool := (f.rd (.glob .rirbctl)).getLsbD 1

/-- RIRBSTS.RINTFL (R47). -/
def RegFile.rintfl (f : RegFile) : Bool := (f.rd (.glob .rirbsts)).getLsbD 0

/-- SDCTL(n).SRST (R49). -/
def RegFile.srst (f : RegFile) (n : Stream) : Bool := (f.rd (.str .ctl n)).getLsbD 0

/-- SDCTL(n).RUN (R49). -/
def RegFile.run (f : RegFile) (n : Stream) : Bool := (f.rd (.str .ctl n)).getLsbD 1

/-- SDCTL(n).IOCE (R49). -/
def RegFile.ioce (f : RegFile) (n : Stream) : Bool := (f.rd (.str .ctl n)).getLsbD 2

/-- SDCTL(n).TAG, bits 23:20 (R49). -/
def RegFile.tag (f : RegFile) (n : Stream) : BitVec 4 := (f.rd (.str .ctl n)).extractLsb' 20 4

/-- SDSTS(n).BCIS (R50). -/
def RegFile.bcis (f : RegFile) (n : Stream) : Bool := (f.rd (.str .sts n)).getLsbD 2

/-- The value of SDCBL(n) (R52). -/
def RegFile.cbl (f : RegFile) (n : Stream) : Nat := (f.rd (.str .cbl n)).toNat

/-- `cnt = SDLVI(n).LVI + 1` (R53, 44_stream_dma.md). -/
def RegFile.entryCount (f : RegFile) (n : Stream) : Nat := (f.rd (.str .lvi n) &&& 0xFF).toNat + 1

/-! ### Derived quantities (R66) -/

/-- A ring capacity by its SIZE code: 2, 16 or 256 entries (R42). Code 3 is reserved and never stored
(R199); the capacity it would have is not stated and is DESIGN CHOICE 256 (log entry 7). -/
def capacity (size : BitVec 2) : Nat :=
  match size with
  | 0 => 2
  | 1 => 16
  | _ => 256

/-- `corbCap` (R42). -/
def RegFile.corbCap (f : RegFile) : Nat := capacity ((f.rd (.glob .corbsize)).extractLsb' 0 2)

/-- `rirbCap` (R48). -/
def RegFile.rirbCap (f : RegFile) : Nat := capacity ((f.rd (.glob .rirbsize)).extractLsb' 0 2)

/-- A 64-bit address from its two halves. -/
def address (upper lower : Word) : Nat := upper.toNat * 2 ^ 32 + lower.toNat

/-- `corbBase` (R37). -/
def RegFile.corbBase (f : RegFile) : Nat := address (f.rd (.glob .corbubase)) (f.rd (.glob .corblbase))

/-- `rirbBase` (R43). -/
def RegFile.rirbBase (f : RegFile) : Nat := address (f.rd (.glob .rirbubase)) (f.rd (.glob .rirblbase))

/-- `bdlBase(n)` (R57). -/
def RegFile.bdlBase (f : RegFile) (n : Stream) : Nat := address (f.rd (.str .bdpu n)) (f.rd (.str .bdpl n))

/-- `threshold`: RINTCNT.N, where 0 means 256 (R45, R210). -/
def RegFile.threshold (f : RegFile) : Nat :=
  let n := (f.rd (.glob .rintcnt) &&& 0xFF).toNat
  if n = 0 then 256 else n

/-- The guest-visible states of a stream (43_stream_registers.md R230). -/
inductive StreamState
  | reset
  | stopped
  | running
  deriving DecidableEq, Repr

/-- `streamState(n)` (R66, R230). -/
def RegFile.streamState (f : RegFile) (n : Stream) : StreamState :=
  if f.srst n then .reset else if f.run n then .running else .stopped

/-! ### Pieces and lanes -/

/-- A piece of a transaction: consecutive bytes of one register, `lo .. hi` inside the register, the
first of them being byte `tlo` of the transaction; `reg = none` is an unmapped piece (R136). -/
structure Piece where
  reg : Option Reg
  lo : Nat
  hi : Nat
  tlo : Nat
  deriving DecidableEq, Repr

/-- The piece of one byte of a transaction. -/
def bytePiece (off i : Nat) : Piece :=
  match decodeByte (off + i) with
  | some (r, j) => ⟨some r, j, j, i⟩
  | none => ⟨none, 0, 0, i⟩

/-- Join the next piece to the one before it if both are of the same register, or both unmapped. -/
def joinPiece (p : Piece) : List Piece → List Piece
  | [] => [p]
  | q :: rest => if p.reg = q.reg then { p with hi := q.hi } :: rest else p :: q :: rest

/-- The pieces of bytes `i ..` of a transaction, `k` of them. -/
def piecesFrom (off i : Nat) : Nat → List Piece
  | 0 => []
  | k + 1 => joinPiece (bytePiece off i) (piecesFrom off (i + 1) k)

/-- `pieces(off, w)`, 40_mmio_dispatch.md R136, in ascending offset order. -/
def pieces (off : Nat) (w : Width) : List Piece := piecesFrom off 0 w.bytes

/-- The byte-lane mask of bytes `lo .. hi` (30_encoding.md R105). -/
def lane (lo hi : Nat) : Word := BitVec.ofNat 32 ((2 ^ (8 * (hi - lo + 1)) - 1) * 2 ^ (8 * lo))

/-- The transaction's bytes of a piece, placed at the piece's lanes of the register (R105, R135). -/
def laneValue (v : Word) (p : Piece) : Word :=
  BitVec.ofNat 32 (v.toNat / 2 ^ (8 * p.tlo) % 2 ^ (8 * (p.hi - p.lo + 1)) * 2 ^ (8 * p.lo))

/-- The full-width value handed to a write handler: the uncovered lanes come from the raw stored value
(R105, R136). -/
def merged (stored v : Word) (p : Piece) : Word := (stored &&& ~~~(lane p.lo p.hi)) ||| laneValue v p

/-- Byte `j` of a value. -/
def byteLane (v : Word) (j : Nat) : Byte := v.extractLsb' (8 * j) 8

end Sys2Proof.Machine
end

