-- ==== Sys2Proof/Machine/Flags.lean ====
section
/-! DEFINITION. The status flags (10_state.md R62) and what is computed from them: write-1-to-clear, the
aggregated status INTSTS, the line formula and IRQ.EVAL (60_exceptions.md R328 to R331). -/

namespace Sys2Proof.Machine

/-- The bits of SDSTS and SDCTL that carry a cause and its enable: BCIS, FIFOE, DESE (R50). -/
def causeMask : Word := 0x1C

/-- SDSTS.BCIS. -/
def bcisBit : Word := 0x04

/-- SDSTS.DESE. -/
def deseBit : Word := 0x10

/-- RIRBSTS.RINTFL. -/
def rintflBit : Word := 0x01

/-- Write-1-to-clear of the flags under a mask (40_mmio_dispatch.md R140). -/
def w1c (stored val mask : Word) : Word := stored &&& ~~~(val &&& mask)

/-- `SIS[n]`, 60_exceptions.md R328. -/
def RegFile.sis (f : RegFile) (n : Stream) : Bool :=
  (f.rd (.str .sts n) &&& f.rd (.str .ctl n) &&& causeMask) != 0

/-- `CIS`, 60_exceptions.md R328. -/
def RegFile.cis (f : RegFile) : Bool :=
  (f.rintfl && f.rintctl) || (f.rd (.glob .statests) &&& f.rd (.glob .wakeen) &&& 0x7FFF) != 0

/-- `GIS`, 60_exceptions.md R328. -/
def RegFile.gis (f : RegFile) : Bool := f.cis || allStreams.any fun n => f.sis n

/-- The bits `SIS[n] << n`, together. -/
def RegFile.sisBits (f : RegFile) : Word :=
  allStreams.foldl (fun acc n => acc ||| (bif f.sis n then 1#32 <<< n.val else 0#32)) 0#32

/-- `intsts(state)`, 60_exceptions.md R328. -/
def RegFile.intsts (f : RegFile) : Word :=
  (bif f.gis then 0x80000000#32 else 0#32) ||| (bif f.cis then 0x40000000#32 else 0#32) ||| f.sisBits

/-- `line(state)`, 60_exceptions.md R330. -/
def RegFile.line (f : RegFile) : Bool :=
  f.gie && ((f.cis && f.cie) || allStreams.any fun n => f.sis n && f.sie n)

/-- `IRQ.EVAL`, 60_exceptions.md R331. -/
def irqEval (s : State) : State := s.driveWire s.regs.line

end Sys2Proof.Machine
end

