-- ==== Sys2Proof/Machine/WallClock.lean ====
section
/-! DEFINITION. The wall clock, 60_exceptions.md R340 to R343. -/

namespace Sys2Proof.Machine

/-- The `tsLast` of every stream whose engine is armed (the set `R` of R340). -/
def runningLasts (s : State) : List Nat :=
  (allStreams.filter fun n => (s.dmaOf n).running).map fun n => (s.dmaOf n).tsLast

/-- The 24 MHz value of an elapsed time in `TIMER_HZ` units, modulo 2^32 (R340). -/
def walclkValue (cfg : Config) (elapsed : Nat) : Word :=
  BitVec.ofNat 32 (elapsed * walclkHz / cfg.timerHz)

/-- `WALCLK.EVAL`, R340: held while no engine is armed, else the time since the epoch of the slowest
armed stream's last completed transfer. (R340's subtraction is 0 where `t < wcEpoch`, as on naturals.) -/
def walclkEval (s : State) : State :=
  match runningLasts s with
  | [] => s
  | a :: rest =>
    let t := min s.now (rest.foldl min a)
    s.setReg (.glob .walclk) (walclkValue s.cfg (t - s.wcEpoch))

end Sys2Proof.Machine
end

