-- ==== Sys2Proof/Machine/Stream.lean ====
section
/-! DEFINITION. The stream DMA engine, 44_stream_dma.md: the format code, the schedule, SD.START,
SD.DISABLE, SD.RESET, the transfer of one step and TICK. -/

namespace Sys2Proof.Machine

/-! ### Format code (R268, R269) -/

/-- A decoded format code. -/
structure Fmt where
  base : Nat
  mult : Nat
  div : Nat
  bits : Nat
  channels : Nat
  bytesPerSample : Nat
  deriving DecidableEq, Repr

/-- Bits per sample by the BITS field, `[8, 16, 20, 24, 32]` (R268). -/
def sampleBits : Nat → Nat
  | 0 => 8
  | 1 => 16
  | 2 => 20
  | 3 => 24
  | _ => 32

/-- Bytes a sample occupies in memory (R268). -/
def sampleBytes (bits : Nat) : Nat := if bits = 8 then 1 else if bits = 16 then 2 else 4

/-- `decodeFmt(v)`, R268; `none` is an invalid code. -/
def decodeFmt (v : Word) : Option Fmt :=
  let multF := (v.extractLsb' 11 3).toNat
  let bitsF := (v.extractLsb' 4 3).toNat
  if 3 < multF ∨ 4 < bitsF then none
  else some {
    base := if v.getLsbD 14 then 44100 else 48000
    mult := multF + 1
    div := (v.extractLsb' 8 3).toNat + 1
    bits := sampleBits bitsF
    channels := (v.extractLsb' 0 4).toNat + 1
    bytesPerSample := sampleBytes (sampleBits bitsF) }

/-- The sample rate handed to the sink (R268). -/
def Fmt.rate (f : Fmt) : Nat := f.base * f.mult / f.div

/-- `tickCount(b, f)`, R269. -/
def tickCount (cfg : Config) (b : Nat) (f : Fmt) : Nat :=
  b * cfg.timerHz * f.div / (f.base * f.mult * f.channels * f.bytesPerSample)

/-! ### Buffer descriptor list (30_encoding.md R108) -/

/-- One buffer descriptor from its 16 bytes. -/
def decodeBdle (bs : List Byte) : Bdle where
  addr := le64 (slice bs 0 8)
  len := le32 (slice bs 8 4)
  ioc := (le32 (slice bs 12 4)).getLsbD 0

/-- A reserved flag bit of a descriptor is set (R108; ignored but for the class raised). -/
def hasReservedFlags (bs : List Byte) : Bool := (le32 (slice bs 12 4) &&& 0xFFFFFFFE) != 0

/-- The descriptors of a list of `cnt` entries. -/
def decodeBdl (bs : List Byte) : Nat → List Bdle
  | 0 => []
  | k + 1 => decodeBdle (bs.take bdleBytes) :: decodeBdl (bs.drop bdleBytes) k

/-- How many of `cnt` entries have a reserved flag bit set. -/
def reservedEntries (bs : List Byte) : Nat → Nat
  | 0 => 0
  | k + 1 => (if hasReservedFlags (bs.take bdleBytes) then 1 else 0) + reservedEntries (bs.drop bdleBytes) k

/-- The sum of the lengths of a list of entries. -/
def totalLen (bdl : List Bdle) : Nat := (bdl.map fun e => e.len.toNat).sum

/-! ### Schedule (R266, R267) -/

/-- A group of consecutive entries: index of the first, number of entries, bytes (R266). -/
structure Group where
  first : Nat
  count : Nat
  bytes : Nat
  deriving DecidableEq, Repr

/-- The groups of the entries from index `first + count` on, with `count` entries and `bytes` bytes
already gathered into the current group (R266: a group ends at an entry with IOC, or at the end). -/
def groupsFrom (first count bytes : Nat) : List Bdle → List Group
  | [] => if count = 0 then [] else [⟨first, count, bytes⟩]
  | e :: rest =>
    if e.ioc then ⟨first, count + 1, bytes + e.len.toNat⟩ :: groupsFrom (first + count + 1) 0 0 rest
    else groupsFrom first (count + 1) (bytes + e.len.toNat) rest

/-- The groups of a list (R266). -/
def groups (bdl : List Bdle) : List Group := groupsFrom 0 0 0 bdl

/-- The loop count that the parameters list for a byte count, 1 if none. -/
def listedLoops (cfg : Config) (g : Nat) : Nat := (cfg.splits.lookup g).getD 1

/-- `splitPeriod(g)`, R5 and R267: the listed loop count where it keeps the law `bytes * loops = g`,
`loops >= 1`, and `loops = 1` for `g = 0`; else `(g, 1)`. -/
def splitPeriod (cfg : Config) (g : Nat) : Nat × Nat :=
  let l := listedLoops cfg g
  if g ≠ 0 ∧ 1 ≤ l ∧ g % l = 0 then (g / l, l) else (g, 1)

/-- The step of a group (R267). -/
def stepOf (cfg : Config) (f : Fmt) (g : Group) : Step :=
  let (b, l) := splitPeriod cfg g.bytes
  ⟨tickCount cfg b f, b, l, g.first, g.count⟩

/-- `buildSchedule(bdl, f)`, R262, R267. -/
def buildSchedule (cfg : Config) (bdl : List Bdle) (f : Fmt) : List Step :=
  (groups bdl).map (stepOf cfg f)

/-- The duration of a schedule step (0 past the end of the schedule, which no armed stream reaches). -/
def ticksAt (sched : List Step) (i : Nat) : Nat := (sched[i]?.map (·.ticks)).getD 0

/-! ### Start (R262 to R264) -/

/-- `startOk(n)`, R263, as the decoded format of a start that is accepted. -/
def startFormat (s : State) (n : Stream) (bdl : List Bdle) : Option Fmt :=
  if s.regs.cbl n ≠ 0 ∧ bdl.all (fun e => decide (e.len.toNat ≤ s.cfg.maxBdleBytes)) ∧ totalLen bdl = s.regs.cbl n
  then decodeFmt (s.reg (.str .fmt n))
  else none

/-- The fetch of the list of stream `n`: `16 * cnt` bytes at `bdlBase(n)` (R262). -/
def fetchBdl (s : State) (n : Stream) : Option (List Byte) :=
  s.mem.read (s.regs.bdlBase n) (bdleBytes * s.regs.entryCount n)

/-- `refuse` of R262: the engine stays disarmed. -/
def refuseStart (n : Stream) (s : State) : State := (s.raise .guestProtocolViolation).countStartRefused n

/-- `Sink.setFormat` then `Sink.start`, both called; the sink accepts if it accepts both (R262, R305). -/
def askSink (n : Stream) (f : Fmt) (s : State) : Bool × State :=
  let (a, s) := s.sinkAsk (.setFormat n f.rate f.channels f.bits)
  let (b, s) := s.sinkAsk (.start n)
  (a && b, s)

/-- A rejecting sink: class (d), counted as a flow error (R262, R324). -/
def noteBackend (n : Stream) (ok : Bool) (s : State) : State :=
  if ok then s else (s.raise .backendFailure).countFlowError n

/-- The position and bookkeeping a start begins with (R262). -/
def startPosition (s : State) (n : Stream) : State :=
  let s := s.setDma n { s.dmaOf n with
    boundTag := s.regs.tag n, curEntry := 0, curOff := 0, schedIdx := 0, schedLoop := 0, pendingIrq := 0,
    bdl := [], sched := [], running := false, ring := [] }
  s.setReg (.str .lpib n) 0

/-- The entries of a fetched list are taken into `dma[n].bdl`; set reserved flags are ignored (R108). -/
def loadBdl (n : Stream) (bytes : List Byte) (s : State) : State :=
  let cnt := s.regs.entryCount n
  let s := s.raiseTimes .guestProtocolViolation (reservedEntries bytes cnt)
  s.setDma n { s.dmaOf n with bdl := decodeBdl bytes cnt }

/-- The engine is armed with the schedule of its list (R262, last lines). -/
def armStream (n : Stream) (f : Fmt) (s : State) : State :=
  let sched := buildSchedule s.cfg (s.dmaOf n).bdl f
  let (ok, s) := askSink n f s
  let s := noteBackend n ok s
  s.setDma n { s.dmaOf n with
    sched := sched, sinkOk := ok, running := true, tsLast := s.now, tsNext := s.now + ticksAt sched 0 }

/-- SD.START with the list taken in: the preconditions, then the engine is armed (R262, R263). -/
def startLoaded (n : Stream) (s : State) : State :=
  match startFormat s n (s.dmaOf n).bdl with
  | none => refuseStart n s
  | some f => armStream n f s

/-- SD.START from the fetch of the list on (R262); a failed fetch sets DESE and refuses (R264). -/
def startFetch (n : Stream) (s : State) : State :=
  match fetchBdl s n with
  | none => refuseStart n ((s.raise .fatal).orReg (.str .sts n) deseBit)
  | some bytes => startLoaded n (loadBdl n bytes s)

/-- `SD.START(n)`, R262 to R264. -/
def sdStart (n : Stream) (s : State) : State := startFetch n (startPosition s n)

/-! ### Disable and reset (R283, R286) -/

/-- `SD.DISABLE(n)`, R283: idempotent; no register changes. -/
def sdDisable (n : Stream) (s : State) : State :=
  let d := s.dmaOf n
  if d.running then
    let s := s.setDma n { d with running := false, ring := [] }
    let s := if d.ring = [] then s else s.countXrun n
    s.recordCall (.stop n)
  else s

/-- `SD.DISABLE` of every stream, ascending. -/
def disableAll (s : State) : State := allStreams.foldl (fun s n => sdDisable n s) s

/-- Every register of a stream takes its reset value. -/
def resetStreamRegs (n : Stream) (s : State) : State :=
  streamRegs.foldl (fun s k => s.setReg (.str k n) (Reg.str k n).resetVal) s

/-- `SD.RESET(n)`, R286. -/
def sdReset (n : Stream) (s : State) : State := (resetStreamRegs n s).setDma n Dma.reset

/-! ### Tick (R271 to R281) -/

/-- The consumer side cannot take or supply the step, or (parameter) an interrupt is unacknowledged:
`skip(n, s)`, R273. -/
def skipTick (s : State) (n : Stream) (st : Step) : Bool :=
  let d := s.dmaOf n
  (d.sinkOk && !isInput n && decide (s.cfg.ringBytes.get n - d.ring.length < st.bytes))
  || (d.sinkOk && isInput n && decide (d.ring.length < st.bytes))
  || (s.cfg.holdOnPendingIrq && decide (0 < d.pendingIrq))

/-- How the transfer loop ends. -/
inductive Xfer
  /-- All bytes moved: the new position, guest memory, and the bytes read (output stream). -/
  | done (e o : Nat) (mem : Memory) (buf : List Byte)
  /-- A guest-memory access failed; guest memory as earlier iterations left it. -/
  | failed (mem : Memory)
  /-- The list cannot supply the bytes; no reachable state (R274: `rem <= CBL`). -/
  | exhausted
  deriving DecidableEq, Repr

/-- The loop of `transfer(n, b)`, R274, over at most `fuel` iterations. -/
def xferLoop (bdl : List Bdle) (cnt : Nat) (input : Bool) :
    (fuel : Nat) → (mem : Memory) → (e o rem : Nat) → (src buf : List Byte) → Xfer
  | 0, mem, e, o, rem, _, buf => if rem = 0 then .done e o mem buf else .exhausted
  | fuel + 1, mem, e, o, rem, src, buf =>
    if rem = 0 then .done e o mem buf
    else
      match bdl[e]? with
      | none => .exhausted
      | some d =>
        if d.len.toNat ≤ o then xferLoop bdl cnt input fuel mem ((e + 1) % cnt) 0 rem src buf
        else
          let c := min rem (d.len.toNat - o)
          if input then
            match mem.write (d.addr.toNat + o) (src.take c) with
            | none => .failed mem
            | some mem' => xferLoop bdl cnt input fuel mem' e (o + c) (rem - c) (src.drop c) buf
          else
            match mem.read (d.addr.toNat + o) c with
            | none => .failed mem
            | some x => xferLoop bdl cnt input fuel mem e (o + c) (rem - c) src (buf ++ x)

/-- The bytes an input stream's step writes to guest memory: the ring's first `b`, or zeros with a
rejecting sink (R274, R275). -/
def xferSource (d : Dma) (b : Nat) : List Byte :=
  if d.sinkOk then d.ring.take b else List.replicate b 0

/-- `transfer(n, b)`, R274, up to the commit. -/
def transfer (s : State) (n : Stream) (b : Nat) : Xfer :=
  let d := s.dmaOf n
  let cnt := s.regs.entryCount n
  xferLoop d.bdl cnt (isInput n) (2 * cnt + 1) s.mem d.curEntry d.curOff b (xferSource d b) []

/-- The ring after a step of `b` bytes whose transfer read `buf` (commit of R274). -/
def committedRing (d : Dma) (n : Stream) (b : Nat) (buf : List Byte) : List Byte :=
  if d.sinkOk then (if isInput n then d.ring.drop b else d.ring ++ buf) else d.ring

/-- The commit of R274: position, ring, and the flow error of a discarded output step. -/
def commitTransfer (n : Stream) (b e o : Nat) (mem : Memory) (buf : List Byte) (s : State) : State :=
  let d := s.dmaOf n
  let s := if !isInput n && !d.sinkOk then s.countFlowError n else s
  { s with mem := mem }.setDma n { d with curEntry := e, curOff := o, ring := committedRing d n b buf }

/-- LPIB after `b` more bytes (R277). -/
def advanceLpib (n : Stream) (b : Nat) (s : State) : State :=
  s.setReg (.str .lpib n) (BitVec.ofNat 32 (((s.reg (.str .lpib n)).toNat + b) % s.regs.cbl n))

/-- The last execution of a step completes: the position passes its group, an IOC boundary sets BCIS and
queues an interrupt if IOCE is set, and the schedule index advances (R272, R278, R279). -/
def finishStep (n : Stream) (st : Step) (ioc : Bool) (s : State) : State :=
  let d := s.dmaOf n
  let d := { d with
    curEntry := (st.first + st.count) % s.regs.entryCount n, curOff := 0, schedLoop := 0,
    schedIdx := (d.schedIdx + 1) % d.sched.length,
    pendingIrq := if ioc && s.regs.ioce n then d.pendingIrq + 1 else d.pendingIrq }
  let s := s.setDma n d
  if ioc then s.orReg (.str .sts n) bcisBit else s

/-- The schedule after one execution of a step (R272, R279). -/
def advanceSchedule (n : Stream) (st : Step) (ioc : Bool) (s : State) : State :=
  let d := s.dmaOf n
  if d.schedLoop + 1 = st.loops then finishStep n st ioc s
  else s.setDma n { d with schedLoop := d.schedLoop + 1 }

/-- The timer after a completed transfer: one duration of the now current step (R280). -/
def rearmTimer (n : Stream) (s : State) : State :=
  let d := s.dmaOf n
  s.setDma n { d with tsLast := s.now, tsNext := s.now + ticksAt d.sched d.schedIdx }

/-- The timer after a skipped or aborted tick: one duration of the same step (R273, R276). -/
def retryLater (n : Stream) (st : Step) (s : State) : State :=
  s.setDma n { s.dmaOf n with tsNext := s.now + st.ticks }

/-- A tick that is skipped (R273). -/
def tickSkipped (n : Stream) (st : Step) (s : State) : State :=
  irqEval (retryLater n st (s.countSkipped n))

/-- A tick aborted by a guest-memory failure: class (e), DESE (R276). -/
def tickAborted (n : Stream) (st : Step) (mem : Memory) (s : State) : State :=
  irqEval (retryLater n st (({ s with mem := mem }.raise .fatal).orReg (.str .sts n) deseBit))

/-- A tick whose transfer succeeded (R272). -/
def tickDone (n : Stream) (st : Step) (ioc : Bool) (e o : Nat) (mem : Memory) (buf : List Byte) (s : State) :
    State :=
  irqEval (rearmTimer n (advanceSchedule n st ioc (advanceLpib n st.bytes
    (commitTransfer n st.bytes e o mem buf s))))

/-- TICK(n) is enabled: the engine is armed and the tick is due (R271). -/
def tickEnabled (s : State) (n : Stream) : Bool :=
  (s.dmaOf n).running && decide ((s.dmaOf n).tsNext ≤ s.now)

/-- `TICK(n)`, R272, of an enabled tick with step `st` whose last entry has IOC flag `ioc`. -/
def tickRun (n : Stream) (st : Step) (ioc : Bool) (s : State) : Host.Outcome State Fault Refusal :=
  if skipTick s n st then .next (tickSkipped n st s)
  else
    match transfer s n st.bytes with
    | .done e o mem buf => .next (tickDone n st ioc e o mem buf s)
    | .failed mem => .next (tickAborted n st mem s)
    | .exhausted => .fault (.armedStreamBroken n)

/-- `TICK(n)`, R271, R272. -/
def tick (n : Stream) (s : State) : Host.Outcome State Fault Refusal :=
  if tickEnabled s n then
    match (s.dmaOf n).sched[(s.dmaOf n).schedIdx]? with
    | none => .fault (.armedStreamBroken n)
    | some st =>
      match (s.dmaOf n).bdl[st.first + st.count - 1]? with
      | none => .fault (.armedStreamBroken n)
      | some last => if s.regs.cbl n = 0 then .fault (.armedStreamBroken n) else tickRun n st last.ioc s
  else .refused .tickNotEnabled

end Sys2Proof.Machine
end

