-- ==== Sys2Proof/Machine/Ring.lean ====
section
/-! DEFINITION. The command and response ring engine, 42_corb_rirb.md: RIRB.FLUSH and DRAIN. -/

namespace Sys2Proof.Machine

/-- The bytes of the first `cap` entries of the response mirror, lowest index first (R207). -/
def rirbBytes (buf : Vector Quad 256) (cap : Nat) : List Byte :=
  (List.range cap).flatMap fun i => toLe64 (buf[i]?.getD 0)

/-- `RIRB.FLUSH`, R207; a failed write is dropped (R209). -/
def rirbFlush (s : State) : State :=
  let mem := (s.mem.write s.regs.rirbBase (rirbBytes s.rirbBuf s.regs.rirbCap)).getD s.mem
  let s := { s with mem := mem, respPending := 0 }
  if s.regs.rintctl then s.orReg (.glob .rirbsts) rintflBit else s

/-- The command words of the mirror: entry `i` of the bytes read, 0 where the read failed (R204, R209). -/
def corbWordAt (bytes : Option (List Byte)) (i : Nat) : Word :=
  match bytes with
  | some m => le32 (slice m (4 * i) 4)
  | none => 0

/-- The whole command ring is mirrored (R204, R90 a). -/
def mirrorCorb (s : State) : State :=
  let bytes := s.mem.read s.regs.corbBase (4 * s.regs.corbCap)
  { s with corbBuf := (List.range s.regs.corbCap).foldl (fun b i => b.setIfInBounds i (corbWordAt bytes i)) s.corbBuf }

/-- Append one response: the mirror, the write pointer and the pending count advance, and the ring is
flushed when the count reaches the threshold (R204, R206). -/
def appendResponse (resp : Quad) (s : State) : State :=
  let w := (s.regs.rirbWp + 1) % s.regs.rirbCap
  let s := { s with rirbBuf := s.rirbBuf.setIfInBounds w resp, respPending := s.respPending + 1 }
  let s := s.setField (.glob .rirbwp) 0xFF (BitVec.ofNat 32 w)
  if s.regs.threshold ≤ s.respPending then rirbFlush s else s

/-- The response of a lookup: `NotFound` gives 0 (R214). -/
def responseOf (a : Option Quad) : Quad := a.getD 0

/-- The response is unsolicited and unsolicited responses are disabled (R205). -/
def suppressed (s : State) (resp : Quad) : Bool := resp.getLsbD s.cfg.unsolBit.val && !s.regs.unsol

/-- One command is consumed and its response appended (R204). -/
def consume (nxt : Nat) (resp : Quad) (s : State) : State :=
  appendResponse resp (s.setField (.glob .corbrp) 0xFF (BitVec.ofNat 32 nxt))

/-- The loop of DRAIN over at most `fuel` commands (R204, R212). -/
def drainLoop : Nat → State → State
  | 0, s => s
  | fuel + 1, s =>
    if s.regs.corbRp = s.regs.corbWp then s
    else
      let nxt := (s.regs.corbRp + 1) % s.regs.corbCap
      let (a, s) := s.codecLookup (s.corbBuf[nxt]?.getD 0)
      if suppressed s (responseOf a) then s
      else drainLoop fuel (consume nxt (responseOf a) s)

/-- The flush of a command ring that has become empty (R208). -/
def flushIfEmpty (s : State) : State :=
  if s.regs.corbRp = s.regs.corbWp ∧ 0 < s.respPending then rirbFlush s else s

/-- `DRAIN`, R204. -/
def drain (s : State) : State :=
  let s := { s with corbKick := false }
  if !s.regs.corbRun || s.regs.corbRst then s
  else irqEval (flushIfEmpty (drainLoop 256 (mirrorCorb s)))

end Sys2Proof.Machine
end

