-- ==== Sys2Proof/Machine/Reset.lean ====
section
/-! DEFINITION. The controller-wide resets and power-off: CTRL.RESET, LEAVE.RESET
(41_global_registers.md R157, R158), PORESET (70_reset_and_hazards.md R360) and POWEROFF
(45_host_ops.md R312). -/

namespace Sys2Proof.Machine

/-- Every register, both mirrors, the pending count and the kick take their reset values (R158, R360). -/
def resetCore (s : State) : State :=
  { s with
    regs := resetRegs, corbBuf := Vector.replicate 256 0, rirbBuf := Vector.replicate 256 0,
    respPending := 0, corbKick := false }

/-- `CTRL.RESET`, R158. -/
def ctrlReset (s : State) : State :=
  resetCore (allStreams.foldl (fun s n => sdReset n (sdDisable n s)) s)

/-- `LEAVE.RESET`, R157. -/
def leaveReset (s : State) : State :=
  let s := s.orReg (.glob .statests) ((s.cfg.codecMask &&& 0x7FFF).setWidth 32)
  { s with wcEpoch := s.now }.setReg (.glob .walclk) 0

/-- `PORESET`, R360. -/
def poreset (s : State) : State :=
  let s := resetCore (disableAll s)
  let s := { s with dma := Vector.replicate 8 Dma.reset, wcEpoch := s.now }
  let s := s.driveWire false
  { s with counts := Counts.zero }

/-- `POWEROFF`, R312. -/
def poweroff (s : State) : State := disableAll s

end Sys2Proof.Machine
end

