-- ==== Sys2Proof/Machine/Handlers.lean ====
section
/-! DEFINITION. The read and write handlers of 40_mmio_dispatch.md R132 and R138, each from the rule
that defines it. A write handler is given the full-width merged value of R136. -/

namespace Sys2Proof.Machine

/-! ### Read handlers (R132, R133, R141, R142) -/

/-- `readValue(r)`, R132, with the state the read leaves (only a read of WALCLK changes it). -/
def readValue (r : Reg) (s : State) : Word × State :=
  match r.desc.rd with
  | .plain => (s.reg r, s)
  | .intsts => (s.regs.intsts, s)
  | .walclk =>
    let s := walclkEval s
    (s.reg r, s)

/-! ### Write handlers -/

/-- `W_PLAIN`, R137. -/
def wPlain (r : Reg) (val : Word) (s : State) : State :=
  s.setReg r ((val &&& r.wmask) ||| (s.reg r &&& ~~~r.wmask))

/-- `W_W1C`, R140. -/
def wW1c (r : Reg) (val : Word) (s : State) : State := s.setReg r (w1c (s.reg r) val r.wmask)

/-- `W_GCTL`, R156. -/
def wGctl (val : Word) (s : State) : State :=
  let new := val &&& 0x00000103
  if new.getLsbD 0 then
    if s.regs.crst then s.setReg (.glob .gctl) new
    else leaveReset (s.setReg (.glob .gctl) new)
  else if s.regs.crst then ctrlReset s
  else s

/-- `W_WAKEEN`, R162. -/
def wWakeen (val : Word) (s : State) : State := s.setReg (.glob .wakeen) (val &&& 0x7FFF)

/-- `W_STATESTS`, R160. -/
def wStatests (val : Word) (s : State) : State :=
  s.setReg (.glob .statests) (w1c (s.reg (.glob .statests)) val 0x7FFF)

/-- `W_INTCTL`, R161: `val & (0xC0000000 | (2^N - 1))`. -/
def wIntctl (val : Word) (s : State) : State := s.setReg (.glob .intctl) (val &&& intMask nStreams)

/-- `corbKick <- true` if the ring engine is Running (R211). -/
def kickIfRunning (s : State) : State := if s.regs.corbRun then { s with corbKick := true } else s

/-- `W_CORBWP`, R194. -/
def wCorbwp (val : Word) (s : State) : State :=
  let wp := (val &&& 0xFF).toNat
  let s := if s.regs.corbCap ≤ wp then s.raise .guestProtocolViolation else s
  kickIfRunning (s.setReg (.glob .corbwp) (BitVec.ofNat 32 (wp % s.regs.corbCap)))

/-- The command mirror is zeroed (R91, R197). -/
def zeroCorbBuf (s : State) : State := { s with corbBuf := Vector.replicate 256 0 }

/-- `W_CORBRP`, R197. -/
def wCorbrp (val : Word) (s : State) : State :=
  if val.getLsbD 15 then
    if s.regs.corbRun then (s.raise .timingViolation).countRingResetIgnored
    else (zeroCorbBuf s).setReg (.glob .corbrp) 0x8000
  else if s.regs.corbRst then kickIfRunning (s.setReg (.glob .corbrp) (s.reg (.glob .corbrp) &&& 0x00FF))
  else s

/-- `W_CORBCTL`, R193. -/
def wCorbctl (val : Word) (s : State) : State := kickIfRunning (s.setReg (.glob .corbctl) (val &&& 0x03))

/-- `W_CORBSIZE`, R199. -/
def wCorbsize (val : Word) (s : State) : State :=
  if s.regs.corbRun then (s.raise .timingViolation).countRingSizeIgnored
  else if val &&& 3 = 3 then s.raise .guestProtocolViolation
  else
    let s := s.setReg (.glob .corbsize) (0x70 ||| (val &&& 3))
    let s := s.setReg (.glob .corbwp) (BitVec.ofNat 32 (s.regs.corbWp % s.regs.corbCap))
    s.setReg (.glob .corbrp)
      ((s.reg (.glob .corbrp) &&& 0x8000) ||| BitVec.ofNat 32 (s.regs.corbRp % s.regs.corbCap))

/-- `W_RIRBWP`, R200. -/
def wRirbwp (val : Word) (s : State) : State :=
  if val.getLsbD 15 then
    if s.regs.rirbDmaen then (s.raise .timingViolation).countRingResetIgnored
    else { s with rirbBuf := Vector.replicate 256 0, respPending := 0 }.setReg (.glob .rirbwp) 0x0000
  else s

/-- `W_RIRBCTL`, R202. -/
def wRirbctl (val : Word) (s : State) : State := s.setReg (.glob .rirbctl) (val &&& 0x07)

/-- `W_RIRBSTS`, R203. -/
def wRirbsts (val : Word) (s : State) : State :=
  s.setReg (.glob .rirbsts) (w1c (s.reg (.glob .rirbsts)) val 0x05)

/-- `W_RIRBSIZE`, R201. -/
def wRirbsize (val : Word) (s : State) : State :=
  if s.regs.rirbDmaen then (s.raise .timingViolation).countRingSizeIgnored
  else if val &&& 3 = 3 then s.raise .guestProtocolViolation
  else
    let s := s.setReg (.glob .rirbsize) (0x70 ||| (val &&& 3))
    s.setReg (.glob .rirbwp) (BitVec.ofNat 32 (s.regs.rirbWp % s.regs.rirbCap))

/-- The reset flag of a stream. -/
def setInReset (n : Stream) (b : Bool) (s : State) : State := s.setDma n { s.dmaOf n with inReset := b }

/-- A write of SDCTL with SRST = 1 (R231, R233): enter Reset unless already there; every other bit of
the write is discarded. -/
def holdStreamReset (n : Stream) (s : State) : State :=
  let s := if s.regs.srst n then s else sdReset n (sdDisable n s)
  setInReset n true (s.setReg (.str .ctl n) 0x040001)

/-- A write of SDCTL with SRST = 0 stores its bits, and leaves Reset if the stream was in it (R233). -/
def storeSdctl (n : Stream) (new : Word) (s : State) : State := (setInReset n false s).setReg (.str .ctl n) new

/-- `W_SDCTL`, R233. -/
def wSdctl (n : Stream) (val : Word) (s : State) : State :=
  let new := val &&& 0xFF001F
  if new.getLsbD 0 then holdStreamReset n s
  else if new.getLsbD 1 && !s.regs.run n then sdStart n (storeSdctl n new s)
  else if !new.getLsbD 1 && s.regs.run n then sdDisable n (storeSdctl n new s)
  else storeSdctl n new s

/-- `W_SDSTS`, R235. -/
def wSdsts (n : Stream) (val : Word) (s : State) : State :=
  let s := s.setReg (.str .sts n) (w1c (s.reg (.str .sts n)) val causeMask)
  if val.getLsbD 2 then s.setDma n { s.dmaOf n with pendingIrq := 0 } else s

/-- `W_SDGUARD`, R236. -/
def wSdguard (n : Stream) (r : Reg) (val : Word) (s : State) : State :=
  if s.regs.run n then (s.raise .timingViolation).countDroppedWhileRunning else wPlain r val s

/-- `writeHandler(r)(val)`, R138: by the register's handler id, with no default. -/
def writeHandler (r : Reg) (val : Word) (s : State) : State :=
  match r.desc.wr with
  | .plain => wPlain r val s
  | .ro => s
  | .w1c => wW1c r val s
  | .gctl => wGctl val s
  | .intctl => wIntctl val s
  | .wakeen => wWakeen val s
  | .statests => wStatests val s
  | .corbwp => wCorbwp val s
  | .corbrp => wCorbrp val s
  | .corbctl => wCorbctl val s
  | .corbsize => wCorbsize val s
  | .rirbwp => wRirbwp val s
  | .rirbctl => wRirbctl val s
  | .rirbsts => wRirbsts val s
  | .rirbsize => wRirbsize val s
  | .sdctl n => wSdctl n val s
  | .sdsts n => wSdsts n val s
  | .sdguard n => wSdguard n r val s

end Sys2Proof.Machine
end

