-- ==== Sys2Proof/Machine/Bus.lean ====
section
/-! DEFINITION. The host's bus transactions RD and WR, 40_mmio_dispatch.md R131, R135, R136. -/

namespace Sys2Proof.Machine

/-- The progress of a read: the state, the values of the registers whose handler already ran, and the
result so far (`done`, `rv` and `result` of R131). -/
structure ReadAcc where
  st : State
  done : List (Reg × Word)
  result : Word

/-- The value of a register in this transaction: its handler runs once (R131, R80). -/
def readOnce (r : Reg) (acc : ReadAcc) : Word × ReadAcc :=
  match acc.done.lookup r with
  | some v => (v, acc)
  | none =>
    let (x, s) := readValue r acc.st
    let v := x &&& r.rmask
    (v, { acc with st := s, done := (r, v) :: acc.done })

/-- Byte `i` of a read at `off` (the body of the loop of R131); an unmapped byte reads 0 (R134). -/
def readStep (off : Nat) (acc : ReadAcc) (i : Nat) : ReadAcc :=
  match decodeByte (off + i) with
  | none => acc
  | some (r, j) =>
    let (v, acc) := readOnce r acc
    { acc with result := acc.result ||| ((byteLane v j).setWidth 32 <<< (8 * i)) }

/-- `RD(off, w)`, R131: the value is returned to the host in `out.readData`. -/
def hostRead (off : Nat) (w : Width) (s : State) : State :=
  let acc := (List.range w.bytes).foldl (readStep off) ⟨s, [], 0⟩
  { acc.st with out := { acc.st.out with readData := acc.result } }

/-- Reserved bits written as 1 are discarded and counted (R135, R321 case 1). -/
def noteReserved (r : Reg) (written : Word) (s : State) : State :=
  if written &&& ~~~r.wmask ≠ 0 then (s.raise .guestProtocolViolation).countReservedBits else s

/-- One piece of a write (the body of the loop of R135), with the checks in the order of R327. -/
def writePiece (v : Word) (s : State) (p : Piece) : State :=
  match p.reg with
  | none => s
  | some r =>
    if !s.regs.crst && r ≠ .glob .gctl then (s.raise .guestProtocolViolation).countBlockedInReset
    else writeHandler r (merged (s.reg r) v p) (noteReserved r (laneValue v p) s)

/-- The pieces of a write, in ascending offset order. -/
def writePieces (v : Word) (ps : List Piece) (s : State) : State := ps.foldl (writePiece v) s

/-- The unmapped bytes of a write are dropped and counted once per transaction (R134, R321). -/
def noteUnmapped (ps : List Piece) (s : State) : State :=
  if ps.any (fun p => p.reg.isNone) then (s.raise .guestProtocolViolation).countUnmappedWrite else s

/-- A kicked drain runs inside the write under `INLINE_DRAIN` (R87, R135). -/
def inlineDrain (s : State) : State := if s.corbKick && s.cfg.inlineDrain then drain s else s

/-- What ends every write: IRQ.EVAL, then the inline drain (R135, R143). -/
def endWrite (s : State) : State := inlineDrain (irqEval s)

/-- `WR(off, w, v)`, R135. -/
def hostWrite (off : Nat) (w : Width) (v : Word) (s : State) : State :=
  endWrite (noteUnmapped (pieces off w) (writePieces v (pieces off w) s))

end Sys2Proof.Machine
end

