-- ==== Sys2Proof/Machine/HostOps.lean ====
section
/-! DEFINITION. The operations of the environment, the sink workers and the hypervisor, 45_host_ops.md:
TIME, SINK, SAVE, RESTORE. -/

namespace Sys2Proof.Machine

/-- `TIME(d)`, R300. DEDUCED: R300 assumes that no run reaches `now = 2^64` and gives no refusal; the model refuses
there, from the treatment U25 of 93_implementation_defined.md (log entries 6 and 10, safe). -/
def timeStep (d : Word) (s : State) : Host.Outcome State Fault Refusal :=
  if s.now + d.toNat < 2 ^ 64 then .next { s with now := s.now + d.toNat } else .refused .timeExhausted

/-! ### SINK (R303) -/

/-- The result a SINK returns: `bytesMoved`. -/
def returnMoved (m : Nat) (s : State) : State := { s with out := { s.out with sinkMoved := m } }

/-- The sink of an input stream produces `m` bytes into the ring. -/
def sinkCapture (n : Stream) (m : Nat) (s : State) : State :=
  let (bytes, o) := s.oracle.takeCapture m
  let s := { s with oracle := o }
  s.setDma n { s.dmaOf n with ring := (s.dmaOf n).ring ++ bytes }

/-- The sink of an output stream takes the ring's first `m` bytes. -/
def sinkRender (n : Stream) (m : Nat) (s : State) : State :=
  let d := s.dmaOf n
  let done := s.out.rendered.get n ++ d.ring.take m
  let s := { s with out := { s.out with rendered := s.out.rendered.set n.val done n.isLt } }
  s.setDma n { d with ring := d.ring.drop m }

/-- `SINK(n, k)`, R303. -/
def sinkStep (n : Stream) (k : Nat) (s : State) : State :=
  let d := s.dmaOf n
  if d.running && d.sinkOk then
    if isInput n then
      let m := min k (s.cfg.ringBytes.get n - d.ring.length)
      returnMoved m (sinkCapture n m s)
    else
      let m := min k d.ring.length
      returnMoved m (sinkRender n m s)
  else returnMoved 0 s

/-! ### SAVE (R308) -/

/-- The saved position of one stream. -/
def savedStream (d : Dma) : SavedStream := ⟨d.curEntry, d.curOff, d.inReset, d.tsNext⟩

/-- The record of R308. -/
def snapshotOf (s : State) : Snapshot where
  regs := s.regs
  perStream := s.dma.map savedStream
  ringContents := s.dma.map fun d => if s.cfg.saveRing then some d.ring else none
  wcEpoch := s.wcEpoch
  irqLevel := s.irqLevel

/-- `SAVE`, R308: the record is kept for a later RESTORE (30_encoding.md R101). -/
def save (s : State) : State := { s with saved := some (snapshotOf s) }

/-! ### RESTORE (R309, R311) -/

/-- The response mirror re-read from guest memory: entry `i`, 0 where the read failed or `i` is past
the ring. -/
def rirbWordAt (bytes : Option (List Byte)) (cap i : Nat) : Quad :=
  match bytes with
  | some m => if i < cap then le64 (slice m (8 * i) 8) else 0
  | none => 0

/-- The response mirror of R309. -/
def reloadRirb (s : State) : Vector Quad 256 :=
  let bytes := s.mem.read s.regs.rirbBase (8 * s.regs.rirbCap)
  (List.range 256).foldl (fun b i => b.setIfInBounds i (rirbWordAt bytes s.regs.rirbCap i)) (Vector.replicate 256 0)

/-- The controller-wide part of R309: registers, epoch, mirrors, counters of responses, kick. -/
def restoreCore (r : Snapshot) (s : State) : State :=
  let s := { s with regs := r.regs, wcEpoch := r.wcEpoch, corbBuf := Vector.replicate 256 0 }
  { s with rirbBuf := reloadRirb s, respPending := 0, corbKick := s.regs.crst && s.regs.corbRun }

/-- The position of stream `n` as saved, everything else at reset (R309). -/
def restorePosition (r : Snapshot) (n : Stream) (s : State) : State :=
  let p := r.perStream.get n
  s.setDma n { Dma.reset with
    inReset := p.inReset, curEntry := p.curEntry, curOff := p.curOff, tsNext := p.tsNext,
    pendingIrq := if s.regs.bcis n && s.regs.ioce n then 1 else 0 }

/-- The index of the step whose entries contain entry `e` (`schedIdx` of R309). -/
def stepContaining (sched : List Step) (e : Nat) : Nat :=
  sched.findIdx fun st => decide (st.first ≤ e ∧ e < st.first + st.count)

/-- The bytes of a step that lie before position `(e, o)` (`inStep` of R309). -/
def bytesInStep (bdl : List Bdle) (st : Step) (e o : Nat) : Nat :=
  totalLen ((bdl.drop st.first).take (e - st.first)) + o

/-- The loop of a step that a position lies in (`schedLoop` of R309). -/
def loopInStep (bdl : List Bdle) (st : Step) (e o : Nat) : Nat :=
  if st.bytes = 0 then 0 else min (bytesInStep bdl st e o / st.bytes) (st.loops - 1)

/-- The ring contents a re-armed stream takes back (R309). -/
def restoredRing (s : State) (r : Snapshot) (n : Stream) (ok : Bool) : List Byte :=
  match r.ringContents.get n with
  | some b => if b.length ≤ s.cfg.ringBytes.get n && ok then b else []
  | none => []

/-- The saved position lies inside the list (R309). -/
def positionOk (d : Dma) (cnt : Nat) : Bool :=
  decide (d.curEntry < cnt) && (match d.bdl[d.curEntry]? with | some e => decide (d.curOff ≤ e.len.toNat) | none => false)

/-- The last part of `rearm(n, s)`, R309: schedule, position in it, sink, ring, timer. -/
def resumeStream (r : Snapshot) (n : Stream) (f : Fmt) (s : State) : State :=
  let d := s.dmaOf n
  let sched := buildSchedule s.cfg d.bdl f
  let k := stepContaining sched d.curEntry
  let loop := match sched[k]? with | some st => loopInStep d.bdl st d.curEntry d.curOff | none => 0
  let (ok, s) := askSink n f s
  let s := noteBackend n ok s
  s.setDma n { d with
    sched := sched, schedIdx := k, schedLoop := loop, sinkOk := ok, ring := restoredRing s r n ok,
    tsLast := min s.now d.tsNext, running := true }

/-- `rearm(n, s)`, R309; a stream that cannot be re-armed sets no status bit. -/
def rearm (r : Snapshot) (n : Stream) (s : State) : State :=
  let s := s.setDma n { s.dmaOf n with boundTag := s.regs.tag n }
  match fetchBdl s n with
  | none => s.countStartRefused n
  | some bytes =>
    let s := loadBdl n bytes s
    match startFormat s n (s.dmaOf n).bdl with
    | none => s.countStartRefused n
    | some f =>
      if positionOk (s.dmaOf n) (s.regs.entryCount n) then resumeStream r n f s
      else s.countStartRefused n

/-- The part of R309 for one stream. -/
def restoreStream (r : Snapshot) (s : State) (n : Stream) : State :=
  let s := restorePosition r n s
  if s.regs.crst && !s.regs.srst n && s.regs.run n then rearm r n s else s

/-- `RESTORE(r)`, R309: IRQ.EVAL does not run; the wire takes the saved level. -/
def restore (r : Snapshot) (s : State) : State :=
  (allStreams.foldl (restoreStream r) (restoreCore r (disableAll s))).driveWire r.irqLevel

end Sys2Proof.Machine
end

