-- ==== Sys2Proof/Machine/GlobalAccess.lean ====
section
/-! DEFINITION. The meanings of the global registers' rows, 41_global_registers.md: a bus transaction of
40_mmio_dispatch.md R131 or R135 whose first byte is byte `lo` of the row's register. The rule named at
each is the one the opcode table gives the row. -/

namespace Sys2Proof.Machine

/-- A read transaction that starts at byte `lo` of a row's register: R131. -/
def execRead (t : Target) (lo : Fin 4) (w : Width) (s : State) : Host.Outcome State Fault Refusal :=
  .next (hostRead (t.off + lo.val) w s)

/-- A write transaction that starts at byte `lo` of a row's register: R135. -/
def execWrite (t : Target) (lo : Fin 4) (w : Width) (v : Word) (s : State) : Host.Outcome State Fault Refusal :=
  .next (hostWrite (t.off + lo.val) w v s)

/-- RD.GCAP: R151. -/
def execRdGCAP (lo : Fin 4) (w : Width) (s : State) : Host.Outcome State Fault Refusal :=
  execRead (.reg (.glob .gcap)) lo w s

/-- WR.GCAP: R151. -/
def execWrGCAP (lo : Fin 4) (w : Width) (v : Word) (s : State) : Host.Outcome State Fault Refusal :=
  execWrite (.reg (.glob .gcap)) lo w v s

/-- RD.VMIN: R152. -/
def execRdVMIN (lo : Fin 4) (w : Width) (s : State) : Host.Outcome State Fault Refusal :=
  execRead (.reg (.glob .vmin)) lo w s

/-- WR.VMIN: R152. -/
def execWrVMIN (lo : Fin 4) (w : Width) (v : Word) (s : State) : Host.Outcome State Fault Refusal :=
  execWrite (.reg (.glob .vmin)) lo w v s

/-- RD.VMAJ: R153. -/
def execRdVMAJ (lo : Fin 4) (w : Width) (s : State) : Host.Outcome State Fault Refusal :=
  execRead (.reg (.glob .vmaj)) lo w s

/-- WR.VMAJ: R153. -/
def execWrVMAJ (lo : Fin 4) (w : Width) (v : Word) (s : State) : Host.Outcome State Fault Refusal :=
  execWrite (.reg (.glob .vmaj)) lo w v s

/-- RD.OUTPAY: R154. -/
def execRdOUTPAY (lo : Fin 4) (w : Width) (s : State) : Host.Outcome State Fault Refusal :=
  execRead (.reg (.glob .outpay)) lo w s

/-- WR.OUTPAY: R154. -/
def execWrOUTPAY (lo : Fin 4) (w : Width) (v : Word) (s : State) : Host.Outcome State Fault Refusal :=
  execWrite (.reg (.glob .outpay)) lo w v s

/-- RD.INPAY: R155. -/
def execRdINPAY (lo : Fin 4) (w : Width) (s : State) : Host.Outcome State Fault Refusal :=
  execRead (.reg (.glob .inpay)) lo w s

/-- WR.INPAY: R155. -/
def execWrINPAY (lo : Fin 4) (w : Width) (v : Word) (s : State) : Host.Outcome State Fault Refusal :=
  execWrite (.reg (.glob .inpay)) lo w v s

/-- RD.GCTL: R166. -/
def execRdGCTL (lo : Fin 4) (w : Width) (s : State) : Host.Outcome State Fault Refusal :=
  execRead (.reg (.glob .gctl)) lo w s

/-- WR.GCTL: R156. -/
def execWrGCTL (lo : Fin 4) (w : Width) (v : Word) (s : State) : Host.Outcome State Fault Refusal :=
  execWrite (.reg (.glob .gctl)) lo w v s

/-- RD.WAKEEN: R162. -/
def execRdWAKEEN (lo : Fin 4) (w : Width) (s : State) : Host.Outcome State Fault Refusal :=
  execRead (.reg (.glob .wakeen)) lo w s

/-- WR.WAKEEN: R162. -/
def execWrWAKEEN (lo : Fin 4) (w : Width) (v : Word) (s : State) : Host.Outcome State Fault Refusal :=
  execWrite (.reg (.glob .wakeen)) lo w v s

/-- RD.STATESTS: R160. -/
def execRdSTATESTS (lo : Fin 4) (w : Width) (s : State) : Host.Outcome State Fault Refusal :=
  execRead (.reg (.glob .statests)) lo w s

/-- WR.STATESTS: R160. -/
def execWrSTATESTS (lo : Fin 4) (w : Width) (v : Word) (s : State) : Host.Outcome State Fault Refusal :=
  execWrite (.reg (.glob .statests)) lo w v s

/-- RD.GSTS: R163. -/
def execRdGSTS (lo : Fin 4) (w : Width) (s : State) : Host.Outcome State Fault Refusal :=
  execRead (.reg (.glob .gsts)) lo w s

/-- WR.GSTS: R163. -/
def execWrGSTS (lo : Fin 4) (w : Width) (v : Word) (s : State) : Host.Outcome State Fault Refusal :=
  execWrite (.reg (.glob .gsts)) lo w v s

/-- RD.INTCTL: R161. -/
def execRdINTCTL (lo : Fin 4) (w : Width) (s : State) : Host.Outcome State Fault Refusal :=
  execRead (.reg (.glob .intctl)) lo w s

/-- WR.INTCTL: R161. -/
def execWrINTCTL (lo : Fin 4) (w : Width) (v : Word) (s : State) : Host.Outcome State Fault Refusal :=
  execWrite (.reg (.glob .intctl)) lo w v s

/-- RD.INTSTS: R164. -/
def execRdINTSTS (lo : Fin 4) (w : Width) (s : State) : Host.Outcome State Fault Refusal :=
  execRead (.reg (.glob .intsts)) lo w s

/-- WR.INTSTS: R164. -/
def execWrINTSTS (lo : Fin 4) (w : Width) (v : Word) (s : State) : Host.Outcome State Fault Refusal :=
  execWrite (.reg (.glob .intsts)) lo w v s

/-- RD.WALCLK: R165. -/
def execRdWALCLK (lo : Fin 4) (w : Width) (s : State) : Host.Outcome State Fault Refusal :=
  execRead (.reg (.glob .walclk)) lo w s

/-- WR.WALCLK: R165. -/
def execWrWALCLK (lo : Fin 4) (w : Width) (v : Word) (s : State) : Host.Outcome State Fault Refusal :=
  execWrite (.reg (.glob .walclk)) lo w v s

end Sys2Proof.Machine
end

