-- ==== Sys2Proof/Machine/DupAccess.lean ====
section
/-! DEFINITION. The meanings of the rows at the second offsets of 10_state.md R25, and of the two rows for
offsets that no row covers, 40_mmio_dispatch.md R134. -/

namespace Sys2Proof.Machine

/-- RD.WALCLK.ALIAS: R165. -/
def execRdWALCLKAlias (lo : Fin 4) (w : Width) (s : State) : Host.Outcome State Fault Refusal :=
  execRead (.dup .walclk) lo w s

/-- WR.WALCLK.ALIAS: R165. -/
def execWrWALCLKAlias (lo : Fin 4) (w : Width) (v : Word) (s : State) : Host.Outcome State Fault Refusal :=
  execWrite (.dup .walclk) lo w v s

/-- RD.SD0LPIB.ALIAS: R237. -/
def execRdSD0LPIBAlias (lo : Fin 4) (w : Width) (s : State) : Host.Outcome State Fault Refusal :=
  execRead (.dup (.lpib 0)) lo w s

/-- WR.SD0LPIB.ALIAS: R237. -/
def execWrSD0LPIBAlias (lo : Fin 4) (w : Width) (v : Word) (s : State) : Host.Outcome State Fault Refusal :=
  execWrite (.dup (.lpib 0)) lo w v s

/-- RD.SD1LPIB.ALIAS: R237. -/
def execRdSD1LPIBAlias (lo : Fin 4) (w : Width) (s : State) : Host.Outcome State Fault Refusal :=
  execRead (.dup (.lpib 1)) lo w s

/-- WR.SD1LPIB.ALIAS: R237. -/
def execWrSD1LPIBAlias (lo : Fin 4) (w : Width) (v : Word) (s : State) : Host.Outcome State Fault Refusal :=
  execWrite (.dup (.lpib 1)) lo w v s

/-- RD.SD2LPIB.ALIAS: R237. -/
def execRdSD2LPIBAlias (lo : Fin 4) (w : Width) (s : State) : Host.Outcome State Fault Refusal :=
  execRead (.dup (.lpib 2)) lo w s

/-- WR.SD2LPIB.ALIAS: R237. -/
def execWrSD2LPIBAlias (lo : Fin 4) (w : Width) (v : Word) (s : State) : Host.Outcome State Fault Refusal :=
  execWrite (.dup (.lpib 2)) lo w v s

/-- RD.SD3LPIB.ALIAS: R237. -/
def execRdSD3LPIBAlias (lo : Fin 4) (w : Width) (s : State) : Host.Outcome State Fault Refusal :=
  execRead (.dup (.lpib 3)) lo w s

/-- WR.SD3LPIB.ALIAS: R237. -/
def execWrSD3LPIBAlias (lo : Fin 4) (w : Width) (v : Word) (s : State) : Host.Outcome State Fault Refusal :=
  execWrite (.dup (.lpib 3)) lo w v s

/-- RD.SD4LPIB.ALIAS: R237. -/
def execRdSD4LPIBAlias (lo : Fin 4) (w : Width) (s : State) : Host.Outcome State Fault Refusal :=
  execRead (.dup (.lpib 4)) lo w s

/-- WR.SD4LPIB.ALIAS: R237. -/
def execWrSD4LPIBAlias (lo : Fin 4) (w : Width) (v : Word) (s : State) : Host.Outcome State Fault Refusal :=
  execWrite (.dup (.lpib 4)) lo w v s

/-- RD.SD5LPIB.ALIAS: R237. -/
def execRdSD5LPIBAlias (lo : Fin 4) (w : Width) (s : State) : Host.Outcome State Fault Refusal :=
  execRead (.dup (.lpib 5)) lo w s

/-- WR.SD5LPIB.ALIAS: R237. -/
def execWrSD5LPIBAlias (lo : Fin 4) (w : Width) (v : Word) (s : State) : Host.Outcome State Fault Refusal :=
  execWrite (.dup (.lpib 5)) lo w v s

/-- RD.SD6LPIB.ALIAS: R237. -/
def execRdSD6LPIBAlias (lo : Fin 4) (w : Width) (s : State) : Host.Outcome State Fault Refusal :=
  execRead (.dup (.lpib 6)) lo w s

/-- WR.SD6LPIB.ALIAS: R237. -/
def execWrSD6LPIBAlias (lo : Fin 4) (w : Width) (v : Word) (s : State) : Host.Outcome State Fault Refusal :=
  execWrite (.dup (.lpib 6)) lo w v s

/-- RD.SD7LPIB.ALIAS: R237. -/
def execRdSD7LPIBAlias (lo : Fin 4) (w : Width) (s : State) : Host.Outcome State Fault Refusal :=
  execRead (.dup (.lpib 7)) lo w s

/-- WR.SD7LPIB.ALIAS: R237. -/
def execWrSD7LPIBAlias (lo : Fin 4) (w : Width) (v : Word) (s : State) : Host.Outcome State Fault Refusal :=
  execWrite (.dup (.lpib 7)) lo w v s

/-- RD.UNMAPPED: R134. -/
def execRdUnmapped (off : BitVec 24) (w : Width) (s : State) : Host.Outcome State Fault Refusal :=
  .next (hostRead off.toNat w s)

/-- WR.UNMAPPED: R134. -/
def execWrUnmapped (off : BitVec 24) (w : Width) (v : Word) (s : State) : Host.Outcome State Fault Refusal :=
  .next (hostWrite off.toNat w v s)

end Sys2Proof.Machine
end

