-- ==== Sys2Proof/Machine/Engines.lean ====
section
/-! DEFINITION. The meanings of the operations that are not bus transactions: the ring engine's DRAIN, the
stream engines' TICK, the sinks' SINK, the environment's TIME and the hypervisor's SAVE, RESTORE,
POWEROFF and PORESET (00_scope.md R4). -/

namespace Sys2Proof.Machine

/-- The stream of an ordinal field; `none` at or above `N` (30_encoding.md R101). -/
def streamOf (n : BitVec 4) : Option Stream := if h : n.toNat < 8 then some ⟨n.toNat, h⟩ else none

/-- DRAIN: R204; enabled iff `corbKick` is set (R211, R302 a). -/
def execDrain (s : State) : Host.Outcome State Fault Refusal :=
  if s.corbKick then .next (drain s) else .refused .drainNotEnabled

/-- TICK: R272; enabled iff the stream's engine is armed and the tick is due (R271, R302 a). -/
def execTick (n : BitVec 4) (s : State) : Host.Outcome State Fault Refusal :=
  match streamOf n with
  | some k => tick k s
  | none => .refused .badOrdinal

/-- SINK: R303. -/
def execSink (n : BitVec 4) (k : Word) (s : State) : Host.Outcome State Fault Refusal :=
  match streamOf n with
  | some m => .next (sinkStep m k.toNat s)
  | none => .refused .badOrdinal

/-- TIME: R300. -/
def execTime (d : Word) (s : State) : Host.Outcome State Fault Refusal := timeStep d s

/-- SAVE: R308. -/
def execSave (s : State) : Host.Outcome State Fault Refusal := .next (save s)

/-- RESTORE of the record of the most recent SAVE: R309; refused where there is none (R101). -/
def execRestore (s : State) : Host.Outcome State Fault Refusal :=
  match s.saved with
  | some r => .next (restore r s)
  | none => .refused .restoreWithoutSave

/-- POWEROFF: R312. -/
def execPoweroff (s : State) : Host.Outcome State Fault Refusal := .next (poweroff s)

/-- PORESET: R360. -/
def execPoreset (s : State) : Host.Outcome State Fault Refusal := .next (poreset s)

end Sys2Proof.Machine
end

