-- ==== Sys2Proof/Machine/RingAccess.lean ====
section
/-! DEFINITION. The meanings of the ring registers' rows, 42_corb_rirb.md. -/

namespace Sys2Proof.Machine

/-- RD.CORBLBASE: R192. -/
def execRdCORBLBASE (lo : Fin 4) (w : Width) (s : State) : Host.Outcome State Fault Refusal :=
  execRead (.reg (.glob .corblbase)) lo w s

/-- WR.CORBLBASE: R192. -/
def execWrCORBLBASE (lo : Fin 4) (w : Width) (v : Word) (s : State) : Host.Outcome State Fault Refusal :=
  execWrite (.reg (.glob .corblbase)) lo w v s

/-- RD.CORBUBASE: R192. -/
def execRdCORBUBASE (lo : Fin 4) (w : Width) (s : State) : Host.Outcome State Fault Refusal :=
  execRead (.reg (.glob .corbubase)) lo w s

/-- WR.CORBUBASE: R192. -/
def execWrCORBUBASE (lo : Fin 4) (w : Width) (v : Word) (s : State) : Host.Outcome State Fault Refusal :=
  execWrite (.reg (.glob .corbubase)) lo w v s

/-- RD.CORBWP: R196. -/
def execRdCORBWP (lo : Fin 4) (w : Width) (s : State) : Host.Outcome State Fault Refusal :=
  execRead (.reg (.glob .corbwp)) lo w s

/-- WR.CORBWP: R194. -/
def execWrCORBWP (lo : Fin 4) (w : Width) (v : Word) (s : State) : Host.Outcome State Fault Refusal :=
  execWrite (.reg (.glob .corbwp)) lo w v s

/-- RD.CORBRP: R195. -/
def execRdCORBRP (lo : Fin 4) (w : Width) (s : State) : Host.Outcome State Fault Refusal :=
  execRead (.reg (.glob .corbrp)) lo w s

/-- WR.CORBRP: R197. -/
def execWrCORBRP (lo : Fin 4) (w : Width) (v : Word) (s : State) : Host.Outcome State Fault Refusal :=
  execWrite (.reg (.glob .corbrp)) lo w v s

/-- RD.CORBCTL: R193. -/
def execRdCORBCTL (lo : Fin 4) (w : Width) (s : State) : Host.Outcome State Fault Refusal :=
  execRead (.reg (.glob .corbctl)) lo w s

/-- WR.CORBCTL: R193. -/
def execWrCORBCTL (lo : Fin 4) (w : Width) (v : Word) (s : State) : Host.Outcome State Fault Refusal :=
  execWrite (.reg (.glob .corbctl)) lo w v s

/-- RD.CORBSTS: R198. -/
def execRdCORBSTS (lo : Fin 4) (w : Width) (s : State) : Host.Outcome State Fault Refusal :=
  execRead (.reg (.glob .corbsts)) lo w s

/-- WR.CORBSTS: R198. -/
def execWrCORBSTS (lo : Fin 4) (w : Width) (v : Word) (s : State) : Host.Outcome State Fault Refusal :=
  execWrite (.reg (.glob .corbsts)) lo w v s

/-- RD.CORBSIZE: R199. -/
def execRdCORBSIZE (lo : Fin 4) (w : Width) (s : State) : Host.Outcome State Fault Refusal :=
  execRead (.reg (.glob .corbsize)) lo w s

/-- WR.CORBSIZE: R199. -/
def execWrCORBSIZE (lo : Fin 4) (w : Width) (v : Word) (s : State) : Host.Outcome State Fault Refusal :=
  execWrite (.reg (.glob .corbsize)) lo w v s

/-- RD.RIRBLBASE: R192. -/
def execRdRIRBLBASE (lo : Fin 4) (w : Width) (s : State) : Host.Outcome State Fault Refusal :=
  execRead (.reg (.glob .rirblbase)) lo w s

/-- WR.RIRBLBASE: R192. -/
def execWrRIRBLBASE (lo : Fin 4) (w : Width) (v : Word) (s : State) : Host.Outcome State Fault Refusal :=
  execWrite (.reg (.glob .rirblbase)) lo w v s

/-- RD.RIRBUBASE: R192. -/
def execRdRIRBUBASE (lo : Fin 4) (w : Width) (s : State) : Host.Outcome State Fault Refusal :=
  execRead (.reg (.glob .rirbubase)) lo w s

/-- WR.RIRBUBASE: R192. -/
def execWrRIRBUBASE (lo : Fin 4) (w : Width) (v : Word) (s : State) : Host.Outcome State Fault Refusal :=
  execWrite (.reg (.glob .rirbubase)) lo w v s

/-- RD.RIRBWP: R196. -/
def execRdRIRBWP (lo : Fin 4) (w : Width) (s : State) : Host.Outcome State Fault Refusal :=
  execRead (.reg (.glob .rirbwp)) lo w s

/-- WR.RIRBWP: R200. -/
def execWrRIRBWP (lo : Fin 4) (w : Width) (v : Word) (s : State) : Host.Outcome State Fault Refusal :=
  execWrite (.reg (.glob .rirbwp)) lo w v s

/-- RD.RINTCNT: R210. -/
def execRdRINTCNT (lo : Fin 4) (w : Width) (s : State) : Host.Outcome State Fault Refusal :=
  execRead (.reg (.glob .rintcnt)) lo w s

/-- WR.RINTCNT: R210. -/
def execWrRINTCNT (lo : Fin 4) (w : Width) (v : Word) (s : State) : Host.Outcome State Fault Refusal :=
  execWrite (.reg (.glob .rintcnt)) lo w v s

/-- RD.RIRBCTL: R202. -/
def execRdRIRBCTL (lo : Fin 4) (w : Width) (s : State) : Host.Outcome State Fault Refusal :=
  execRead (.reg (.glob .rirbctl)) lo w s

/-- WR.RIRBCTL: R202. -/
def execWrRIRBCTL (lo : Fin 4) (w : Width) (v : Word) (s : State) : Host.Outcome State Fault Refusal :=
  execWrite (.reg (.glob .rirbctl)) lo w v s

/-- RD.RIRBSTS: R203. -/
def execRdRIRBSTS (lo : Fin 4) (w : Width) (s : State) : Host.Outcome State Fault Refusal :=
  execRead (.reg (.glob .rirbsts)) lo w s

/-- WR.RIRBSTS: R203. -/
def execWrRIRBSTS (lo : Fin 4) (w : Width) (v : Word) (s : State) : Host.Outcome State Fault Refusal :=
  execWrite (.reg (.glob .rirbsts)) lo w v s

/-- RD.RIRBSIZE: R201. -/
def execRdRIRBSIZE (lo : Fin 4) (w : Width) (s : State) : Host.Outcome State Fault Refusal :=
  execRead (.reg (.glob .rirbsize)) lo w s

/-- WR.RIRBSIZE: R201. -/
def execWrRIRBSIZE (lo : Fin 4) (w : Width) (v : Word) (s : State) : Host.Outcome State Fault Refusal :=
  execWrite (.reg (.glob .rirbsize)) lo w v s

end Sys2Proof.Machine
end

