-- ==== Sys2Proof/Machine/StreamAccess.lean ====
section
/-! DEFINITION. The meanings of the stream registers' rows, 43_stream_registers.md. -/

namespace Sys2Proof.Machine

/-- RD.SD0CTL: R234. -/
def execRdSD0CTL (lo : Fin 4) (w : Width) (s : State) : Host.Outcome State Fault Refusal :=
  execRead (.reg (.str .ctl 0)) lo w s

/-- WR.SD0CTL: R233. -/
def execWrSD0CTL (lo : Fin 4) (w : Width) (v : Word) (s : State) : Host.Outcome State Fault Refusal :=
  execWrite (.reg (.str .ctl 0)) lo w v s

/-- RD.SD0STS: R245. -/
def execRdSD0STS (lo : Fin 4) (w : Width) (s : State) : Host.Outcome State Fault Refusal :=
  execRead (.reg (.str .sts 0)) lo w s

/-- WR.SD0STS: R235. -/
def execWrSD0STS (lo : Fin 4) (w : Width) (v : Word) (s : State) : Host.Outcome State Fault Refusal :=
  execWrite (.reg (.str .sts 0)) lo w v s

/-- RD.SD0LPIB: R237. -/
def execRdSD0LPIB (lo : Fin 4) (w : Width) (s : State) : Host.Outcome State Fault Refusal :=
  execRead (.reg (.str .lpib 0)) lo w s

/-- WR.SD0LPIB: R237. -/
def execWrSD0LPIB (lo : Fin 4) (w : Width) (v : Word) (s : State) : Host.Outcome State Fault Refusal :=
  execWrite (.reg (.str .lpib 0)) lo w v s

/-- RD.SD0CBL: R238. -/
def execRdSD0CBL (lo : Fin 4) (w : Width) (s : State) : Host.Outcome State Fault Refusal :=
  execRead (.reg (.str .cbl 0)) lo w s

/-- WR.SD0CBL: R238. -/
def execWrSD0CBL (lo : Fin 4) (w : Width) (v : Word) (s : State) : Host.Outcome State Fault Refusal :=
  execWrite (.reg (.str .cbl 0)) lo w v s

/-- RD.SD0LVI: R239. -/
def execRdSD0LVI (lo : Fin 4) (w : Width) (s : State) : Host.Outcome State Fault Refusal :=
  execRead (.reg (.str .lvi 0)) lo w s

/-- WR.SD0LVI: R239. -/
def execWrSD0LVI (lo : Fin 4) (w : Width) (v : Word) (s : State) : Host.Outcome State Fault Refusal :=
  execWrite (.reg (.str .lvi 0)) lo w v s

/-- RD.SD0FIFOW: R240. -/
def execRdSD0FIFOW (lo : Fin 4) (w : Width) (s : State) : Host.Outcome State Fault Refusal :=
  execRead (.reg (.str .fifow 0)) lo w s

/-- WR.SD0FIFOW: R240. -/
def execWrSD0FIFOW (lo : Fin 4) (w : Width) (v : Word) (s : State) : Host.Outcome State Fault Refusal :=
  execWrite (.reg (.str .fifow 0)) lo w v s

/-- RD.SD0FIFOS: R241. -/
def execRdSD0FIFOS (lo : Fin 4) (w : Width) (s : State) : Host.Outcome State Fault Refusal :=
  execRead (.reg (.str .fifos 0)) lo w s

/-- WR.SD0FIFOS: R241. -/
def execWrSD0FIFOS (lo : Fin 4) (w : Width) (v : Word) (s : State) : Host.Outcome State Fault Refusal :=
  execWrite (.reg (.str .fifos 0)) lo w v s

/-- RD.SD0FMT: R242. -/
def execRdSD0FMT (lo : Fin 4) (w : Width) (s : State) : Host.Outcome State Fault Refusal :=
  execRead (.reg (.str .fmt 0)) lo w s

/-- WR.SD0FMT: R242. -/
def execWrSD0FMT (lo : Fin 4) (w : Width) (v : Word) (s : State) : Host.Outcome State Fault Refusal :=
  execWrite (.reg (.str .fmt 0)) lo w v s

/-- RD.SD0BDPL: R243. -/
def execRdSD0BDPL (lo : Fin 4) (w : Width) (s : State) : Host.Outcome State Fault Refusal :=
  execRead (.reg (.str .bdpl 0)) lo w s

/-- WR.SD0BDPL: R243. -/
def execWrSD0BDPL (lo : Fin 4) (w : Width) (v : Word) (s : State) : Host.Outcome State Fault Refusal :=
  execWrite (.reg (.str .bdpl 0)) lo w v s

/-- RD.SD0BDPU: R244. -/
def execRdSD0BDPU (lo : Fin 4) (w : Width) (s : State) : Host.Outcome State Fault Refusal :=
  execRead (.reg (.str .bdpu 0)) lo w s

/-- WR.SD0BDPU: R244. -/
def execWrSD0BDPU (lo : Fin 4) (w : Width) (v : Word) (s : State) : Host.Outcome State Fault Refusal :=
  execWrite (.reg (.str .bdpu 0)) lo w v s

/-- RD.SD1CTL: R234. -/
def execRdSD1CTL (lo : Fin 4) (w : Width) (s : State) : Host.Outcome State Fault Refusal :=
  execRead (.reg (.str .ctl 1)) lo w s

/-- WR.SD1CTL: R233. -/
def execWrSD1CTL (lo : Fin 4) (w : Width) (v : Word) (s : State) : Host.Outcome State Fault Refusal :=
  execWrite (.reg (.str .ctl 1)) lo w v s

/-- RD.SD1STS: R245. -/
def execRdSD1STS (lo : Fin 4) (w : Width) (s : State) : Host.Outcome State Fault Refusal :=
  execRead (.reg (.str .sts 1)) lo w s

/-- WR.SD1STS: R235. -/
def execWrSD1STS (lo : Fin 4) (w : Width) (v : Word) (s : State) : Host.Outcome State Fault Refusal :=
  execWrite (.reg (.str .sts 1)) lo w v s

/-- RD.SD1LPIB: R237. -/
def execRdSD1LPIB (lo : Fin 4) (w : Width) (s : State) : Host.Outcome State Fault Refusal :=
  execRead (.reg (.str .lpib 1)) lo w s

/-- WR.SD1LPIB: R237. -/
def execWrSD1LPIB (lo : Fin 4) (w : Width) (v : Word) (s : State) : Host.Outcome State Fault Refusal :=
  execWrite (.reg (.str .lpib 1)) lo w v s

/-- RD.SD1CBL: R238. -/
def execRdSD1CBL (lo : Fin 4) (w : Width) (s : State) : Host.Outcome State Fault Refusal :=
  execRead (.reg (.str .cbl 1)) lo w s

/-- WR.SD1CBL: R238. -/
def execWrSD1CBL (lo : Fin 4) (w : Width) (v : Word) (s : State) : Host.Outcome State Fault Refusal :=
  execWrite (.reg (.str .cbl 1)) lo w v s

/-- RD.SD1LVI: R239. -/
def execRdSD1LVI (lo : Fin 4) (w : Width) (s : State) : Host.Outcome State Fault Refusal :=
  execRead (.reg (.str .lvi 1)) lo w s

/-- WR.SD1LVI: R239. -/
def execWrSD1LVI (lo : Fin 4) (w : Width) (v : Word) (s : State) : Host.Outcome State Fault Refusal :=
  execWrite (.reg (.str .lvi 1)) lo w v s

/-- RD.SD1FIFOW: R240. -/
def execRdSD1FIFOW (lo : Fin 4) (w : Width) (s : State) : Host.Outcome State Fault Refusal :=
  execRead (.reg (.str .fifow 1)) lo w s

/-- WR.SD1FIFOW: R240. -/
def execWrSD1FIFOW (lo : Fin 4) (w : Width) (v : Word) (s : State) : Host.Outcome State Fault Refusal :=
  execWrite (.reg (.str .fifow 1)) lo w v s

/-- RD.SD1FIFOS: R241. -/
def execRdSD1FIFOS (lo : Fin 4) (w : Width) (s : State) : Host.Outcome State Fault Refusal :=
  execRead (.reg (.str .fifos 1)) lo w s

/-- WR.SD1FIFOS: R241. -/
def execWrSD1FIFOS (lo : Fin 4) (w : Width) (v : Word) (s : State) : Host.Outcome State Fault Refusal :=
  execWrite (.reg (.str .fifos 1)) lo w v s

/-- RD.SD1FMT: R242. -/
def execRdSD1FMT (lo : Fin 4) (w : Width) (s : State) : Host.Outcome State Fault Refusal :=
  execRead (.reg (.str .fmt 1)) lo w s

/-- WR.SD1FMT: R242. -/
def execWrSD1FMT (lo : Fin 4) (w : Width) (v : Word) (s : State) : Host.Outcome State Fault Refusal :=
  execWrite (.reg (.str .fmt 1)) lo w v s

/-- RD.SD1BDPL: R243. -/
def execRdSD1BDPL (lo : Fin 4) (w : Width) (s : State) : Host.Outcome State Fault Refusal :=
  execRead (.reg (.str .bdpl 1)) lo w s

/-- WR.SD1BDPL: R243. -/
def execWrSD1BDPL (lo : Fin 4) (w : Width) (v : Word) (s : State) : Host.Outcome State Fault Refusal :=
  execWrite (.reg (.str .bdpl 1)) lo w v s

/-- RD.SD1BDPU: R244. -/
def execRdSD1BDPU (lo : Fin 4) (w : Width) (s : State) : Host.Outcome State Fault Refusal :=
  execRead (.reg (.str .bdpu 1)) lo w s

/-- WR.SD1BDPU: R244. -/
def execWrSD1BDPU (lo : Fin 4) (w : Width) (v : Word) (s : State) : Host.Outcome State Fault Refusal :=
  execWrite (.reg (.str .bdpu 1)) lo w v s

/-- RD.SD2CTL: R234. -/
def execRdSD2CTL (lo : Fin 4) (w : Width) (s : State) : Host.Outcome State Fault Refusal :=
  execRead (.reg (.str .ctl 2)) lo w s

/-- WR.SD2CTL: R233. -/
def execWrSD2CTL (lo : Fin 4) (w : Width) (v : Word) (s : State) : Host.Outcome State Fault Refusal :=
  execWrite (.reg (.str .ctl 2)) lo w v s

/-- RD.SD2STS: R245. -/
def execRdSD2STS (lo : Fin 4) (w : Width) (s : State) : Host.Outcome State Fault Refusal :=
  execRead (.reg (.str .sts 2)) lo w s

/-- WR.SD2STS: R235. -/
def execWrSD2STS (lo : Fin 4) (w : Width) (v : Word) (s : State) : Host.Outcome State Fault Refusal :=
  execWrite (.reg (.str .sts 2)) lo w v s

/-- RD.SD2LPIB: R237. -/
def execRdSD2LPIB (lo : Fin 4) (w : Width) (s : State) : Host.Outcome State Fault Refusal :=
  execRead (.reg (.str .lpib 2)) lo w s

/-- WR.SD2LPIB: R237. -/
def execWrSD2LPIB (lo : Fin 4) (w : Width) (v : Word) (s : State) : Host.Outcome State Fault Refusal :=
  execWrite (.reg (.str .lpib 2)) lo w v s

/-- RD.SD2CBL: R238. -/
def execRdSD2CBL (lo : Fin 4) (w : Width) (s : State) : Host.Outcome State Fault Refusal :=
  execRead (.reg (.str .cbl 2)) lo w s

/-- WR.SD2CBL: R238. -/
def execWrSD2CBL (lo : Fin 4) (w : Width) (v : Word) (s : State) : Host.Outcome State Fault Refusal :=
  execWrite (.reg (.str .cbl 2)) lo w v s

/-- RD.SD2LVI: R239. -/
def execRdSD2LVI (lo : Fin 4) (w : Width) (s : State) : Host.Outcome State Fault Refusal :=
  execRead (.reg (.str .lvi 2)) lo w s

/-- WR.SD2LVI: R239. -/
def execWrSD2LVI (lo : Fin 4) (w : Width) (v : Word) (s : State) : Host.Outcome State Fault Refusal :=
  execWrite (.reg (.str .lvi 2)) lo w v s

/-- RD.SD2FIFOW: R240. -/
def execRdSD2FIFOW (lo : Fin 4) (w : Width) (s : State) : Host.Outcome State Fault Refusal :=
  execRead (.reg (.str .fifow 2)) lo w s

/-- WR.SD2FIFOW: R240. -/
def execWrSD2FIFOW (lo : Fin 4) (w : Width) (v : Word) (s : State) : Host.Outcome State Fault Refusal :=
  execWrite (.reg (.str .fifow 2)) lo w v s

/-- RD.SD2FIFOS: R241. -/
def execRdSD2FIFOS (lo : Fin 4) (w : Width) (s : State) : Host.Outcome State Fault Refusal :=
  execRead (.reg (.str .fifos 2)) lo w s

/-- WR.SD2FIFOS: R241. -/
def execWrSD2FIFOS (lo : Fin 4) (w : Width) (v : Word) (s : State) : Host.Outcome State Fault Refusal :=
  execWrite (.reg (.str .fifos 2)) lo w v s

/-- RD.SD2FMT: R242. -/
def execRdSD2FMT (lo : Fin 4) (w : Width) (s : State) : Host.Outcome State Fault Refusal :=
  execRead (.reg (.str .fmt 2)) lo w s

/-- WR.SD2FMT: R242. -/
def execWrSD2FMT (lo : Fin 4) (w : Width) (v : Word) (s : State) : Host.Outcome State Fault Refusal :=
  execWrite (.reg (.str .fmt 2)) lo w v s

/-- RD.SD2BDPL: R243. -/
def execRdSD2BDPL (lo : Fin 4) (w : Width) (s : State) : Host.Outcome State Fault Refusal :=
  execRead (.reg (.str .bdpl 2)) lo w s

/-- WR.SD2BDPL: R243. -/
def execWrSD2BDPL (lo : Fin 4) (w : Width) (v : Word) (s : State) : Host.Outcome State Fault Refusal :=
  execWrite (.reg (.str .bdpl 2)) lo w v s

/-- RD.SD2BDPU: R244. -/
def execRdSD2BDPU (lo : Fin 4) (w : Width) (s : State) : Host.Outcome State Fault Refusal :=
  execRead (.reg (.str .bdpu 2)) lo w s

/-- WR.SD2BDPU: R244. -/
def execWrSD2BDPU (lo : Fin 4) (w : Width) (v : Word) (s : State) : Host.Outcome State Fault Refusal :=
  execWrite (.reg (.str .bdpu 2)) lo w v s

/-- RD.SD3CTL: R234. -/
def execRdSD3CTL (lo : Fin 4) (w : Width) (s : State) : Host.Outcome State Fault Refusal :=
  execRead (.reg (.str .ctl 3)) lo w s

/-- WR.SD3CTL: R233. -/
def execWrSD3CTL (lo : Fin 4) (w : Width) (v : Word) (s : State) : Host.Outcome State Fault Refusal :=
  execWrite (.reg (.str .ctl 3)) lo w v s

/-- RD.SD3STS: R245. -/
def execRdSD3STS (lo : Fin 4) (w : Width) (s : State) : Host.Outcome State Fault Refusal :=
  execRead (.reg (.str .sts 3)) lo w s

/-- WR.SD3STS: R235. -/
def execWrSD3STS (lo : Fin 4) (w : Width) (v : Word) (s : State) : Host.Outcome State Fault Refusal :=
  execWrite (.reg (.str .sts 3)) lo w v s

/-- RD.SD3LPIB: R237. -/
def execRdSD3LPIB (lo : Fin 4) (w : Width) (s : State) : Host.Outcome State Fault Refusal :=
  execRead (.reg (.str .lpib 3)) lo w s

/-- WR.SD3LPIB: R237. -/
def execWrSD3LPIB (lo : Fin 4) (w : Width) (v : Word) (s : State) : Host.Outcome State Fault Refusal :=
  execWrite (.reg (.str .lpib 3)) lo w v s

/-- RD.SD3CBL: R238. -/
def execRdSD3CBL (lo : Fin 4) (w : Width) (s : State) : Host.Outcome State Fault Refusal :=
  execRead (.reg (.str .cbl 3)) lo w s

/-- WR.SD3CBL: R238. -/
def execWrSD3CBL (lo : Fin 4) (w : Width) (v : Word) (s : State) : Host.Outcome State Fault Refusal :=
  execWrite (.reg (.str .cbl 3)) lo w v s

/-- RD.SD3LVI: R239. -/
def execRdSD3LVI (lo : Fin 4) (w : Width) (s : State) : Host.Outcome State Fault Refusal :=
  execRead (.reg (.str .lvi 3)) lo w s

/-- WR.SD3LVI: R239. -/
def execWrSD3LVI (lo : Fin 4) (w : Width) (v : Word) (s : State) : Host.Outcome State Fault Refusal :=
  execWrite (.reg (.str .lvi 3)) lo w v s

/-- RD.SD3FIFOW: R240. -/
def execRdSD3FIFOW (lo : Fin 4) (w : Width) (s : State) : Host.Outcome State Fault Refusal :=
  execRead (.reg (.str .fifow 3)) lo w s

/-- WR.SD3FIFOW: R240. -/
def execWrSD3FIFOW (lo : Fin 4) (w : Width) (v : Word) (s : State) : Host.Outcome State Fault Refusal :=
  execWrite (.reg (.str .fifow 3)) lo w v s

/-- RD.SD3FIFOS: R241. -/
def execRdSD3FIFOS (lo : Fin 4) (w : Width) (s : State) : Host.Outcome State Fault Refusal :=
  execRead (.reg (.str .fifos 3)) lo w s

/-- WR.SD3FIFOS: R241. -/
def execWrSD3FIFOS (lo : Fin 4) (w : Width) (v : Word) (s : State) : Host.Outcome State Fault Refusal :=
  execWrite (.reg (.str .fifos 3)) lo w v s

/-- RD.SD3FMT: R242. -/
def execRdSD3FMT (lo : Fin 4) (w : Width) (s : State) : Host.Outcome State Fault Refusal :=
  execRead (.reg (.str .fmt 3)) lo w s

/-- WR.SD3FMT: R242. -/
def execWrSD3FMT (lo : Fin 4) (w : Width) (v : Word) (s : State) : Host.Outcome State Fault Refusal :=
  execWrite (.reg (.str .fmt 3)) lo w v s

/-- RD.SD3BDPL: R243. -/
def execRdSD3BDPL (lo : Fin 4) (w : Width) (s : State) : Host.Outcome State Fault Refusal :=
  execRead (.reg (.str .bdpl 3)) lo w s

/-- WR.SD3BDPL: R243. -/
def execWrSD3BDPL (lo : Fin 4) (w : Width) (v : Word) (s : State) : Host.Outcome State Fault Refusal :=
  execWrite (.reg (.str .bdpl 3)) lo w v s

/-- RD.SD3BDPU: R244. -/
def execRdSD3BDPU (lo : Fin 4) (w : Width) (s : State) : Host.Outcome State Fault Refusal :=
  execRead (.reg (.str .bdpu 3)) lo w s

/-- WR.SD3BDPU: R244. -/
def execWrSD3BDPU (lo : Fin 4) (w : Width) (v : Word) (s : State) : Host.Outcome State Fault Refusal :=
  execWrite (.reg (.str .bdpu 3)) lo w v s

/-- RD.SD4CTL: R234. -/
def execRdSD4CTL (lo : Fin 4) (w : Width) (s : State) : Host.Outcome State Fault Refusal :=
  execRead (.reg (.str .ctl 4)) lo w s

/-- WR.SD4CTL: R233. -/
def execWrSD4CTL (lo : Fin 4) (w : Width) (v : Word) (s : State) : Host.Outcome State Fault Refusal :=
  execWrite (.reg (.str .ctl 4)) lo w v s

/-- RD.SD4STS: R245. -/
def execRdSD4STS (lo : Fin 4) (w : Width) (s : State) : Host.Outcome State Fault Refusal :=
  execRead (.reg (.str .sts 4)) lo w s

/-- WR.SD4STS: R235. -/
def execWrSD4STS (lo : Fin 4) (w : Width) (v : Word) (s : State) : Host.Outcome State Fault Refusal :=
  execWrite (.reg (.str .sts 4)) lo w v s

/-- RD.SD4LPIB: R237. -/
def execRdSD4LPIB (lo : Fin 4) (w : Width) (s : State) : Host.Outcome State Fault Refusal :=
  execRead (.reg (.str .lpib 4)) lo w s

/-- WR.SD4LPIB: R237. -/
def execWrSD4LPIB (lo : Fin 4) (w : Width) (v : Word) (s : State) : Host.Outcome State Fault Refusal :=
  execWrite (.reg (.str .lpib 4)) lo w v s

/-- RD.SD4CBL: R238. -/
def execRdSD4CBL (lo : Fin 4) (w : Width) (s : State) : Host.Outcome State Fault Refusal :=
  execRead (.reg (.str .cbl 4)) lo w s

/-- WR.SD4CBL: R238. -/
def execWrSD4CBL (lo : Fin 4) (w : Width) (v : Word) (s : State) : Host.Outcome State Fault Refusal :=
  execWrite (.reg (.str .cbl 4)) lo w v s

/-- RD.SD4LVI: R239. -/
def execRdSD4LVI (lo : Fin 4) (w : Width) (s : State) : Host.Outcome State Fault Refusal :=
  execRead (.reg (.str .lvi 4)) lo w s

/-- WR.SD4LVI: R239. -/
def execWrSD4LVI (lo : Fin 4) (w : Width) (v : Word) (s : State) : Host.Outcome State Fault Refusal :=
  execWrite (.reg (.str .lvi 4)) lo w v s

/-- RD.SD4FIFOW: R240. -/
def execRdSD4FIFOW (lo : Fin 4) (w : Width) (s : State) : Host.Outcome State Fault Refusal :=
  execRead (.reg (.str .fifow 4)) lo w s

/-- WR.SD4FIFOW: R240. -/
def execWrSD4FIFOW (lo : Fin 4) (w : Width) (v : Word) (s : State) : Host.Outcome State Fault Refusal :=
  execWrite (.reg (.str .fifow 4)) lo w v s

/-- RD.SD4FIFOS: R241. -/
def execRdSD4FIFOS (lo : Fin 4) (w : Width) (s : State) : Host.Outcome State Fault Refusal :=
  execRead (.reg (.str .fifos 4)) lo w s

/-- WR.SD4FIFOS: R241. -/
def execWrSD4FIFOS (lo : Fin 4) (w : Width) (v : Word) (s : State) : Host.Outcome State Fault Refusal :=
  execWrite (.reg (.str .fifos 4)) lo w v s

/-- RD.SD4FMT: R242. -/
def execRdSD4FMT (lo : Fin 4) (w : Width) (s : State) : Host.Outcome State Fault Refusal :=
  execRead (.reg (.str .fmt 4)) lo w s

/-- WR.SD4FMT: R242. -/
def execWrSD4FMT (lo : Fin 4) (w : Width) (v : Word) (s : State) : Host.Outcome State Fault Refusal :=
  execWrite (.reg (.str .fmt 4)) lo w v s

/-- RD.SD4BDPL: R243. -/
def execRdSD4BDPL (lo : Fin 4) (w : Width) (s : State) : Host.Outcome State Fault Refusal :=
  execRead (.reg (.str .bdpl 4)) lo w s

/-- WR.SD4BDPL: R243. -/
def execWrSD4BDPL (lo : Fin 4) (w : Width) (v : Word) (s : State) : Host.Outcome State Fault Refusal :=
  execWrite (.reg (.str .bdpl 4)) lo w v s

/-- RD.SD4BDPU: R244. -/
def execRdSD4BDPU (lo : Fin 4) (w : Width) (s : State) : Host.Outcome State Fault Refusal :=
  execRead (.reg (.str .bdpu 4)) lo w s

/-- WR.SD4BDPU: R244. -/
def execWrSD4BDPU (lo : Fin 4) (w : Width) (v : Word) (s : State) : Host.Outcome State Fault Refusal :=
  execWrite (.reg (.str .bdpu 4)) lo w v s

/-- RD.SD5CTL: R234. -/
def execRdSD5CTL (lo : Fin 4) (w : Width) (s : State) : Host.Outcome State Fault Refusal :=
  execRead (.reg (.str .ctl 5)) lo w s

/-- WR.SD5CTL: R233. -/
def execWrSD5CTL (lo : Fin 4) (w : Width) (v : Word) (s : State) : Host.Outcome State Fault Refusal :=
  execWrite (.reg (.str .ctl 5)) lo w v s

/-- RD.SD5STS: R245. -/
def execRdSD5STS (lo : Fin 4) (w : Width) (s : State) : Host.Outcome State Fault Refusal :=
  execRead (.reg (.str .sts 5)) lo w s

/-- WR.SD5STS: R235. -/
def execWrSD5STS (lo : Fin 4) (w : Width) (v : Word) (s : State) : Host.Outcome State Fault Refusal :=
  execWrite (.reg (.str .sts 5)) lo w v s

/-- RD.SD5LPIB: R237. -/
def execRdSD5LPIB (lo : Fin 4) (w : Width) (s : State) : Host.Outcome State Fault Refusal :=
  execRead (.reg (.str .lpib 5)) lo w s

/-- WR.SD5LPIB: R237. -/
def execWrSD5LPIB (lo : Fin 4) (w : Width) (v : Word) (s : State) : Host.Outcome State Fault Refusal :=
  execWrite (.reg (.str .lpib 5)) lo w v s

/-- RD.SD5CBL: R238. -/
def execRdSD5CBL (lo : Fin 4) (w : Width) (s : State) : Host.Outcome State Fault Refusal :=
  execRead (.reg (.str .cbl 5)) lo w s

/-- WR.SD5CBL: R238. -/
def execWrSD5CBL (lo : Fin 4) (w : Width) (v : Word) (s : State) : Host.Outcome State Fault Refusal :=
  execWrite (.reg (.str .cbl 5)) lo w v s

/-- RD.SD5LVI: R239. -/
def execRdSD5LVI (lo : Fin 4) (w : Width) (s : State) : Host.Outcome State Fault Refusal :=
  execRead (.reg (.str .lvi 5)) lo w s

/-- WR.SD5LVI: R239. -/
def execWrSD5LVI (lo : Fin 4) (w : Width) (v : Word) (s : State) : Host.Outcome State Fault Refusal :=
  execWrite (.reg (.str .lvi 5)) lo w v s

/-- RD.SD5FIFOW: R240. -/
def execRdSD5FIFOW (lo : Fin 4) (w : Width) (s : State) : Host.Outcome State Fault Refusal :=
  execRead (.reg (.str .fifow 5)) lo w s

/-- WR.SD5FIFOW: R240. -/
def execWrSD5FIFOW (lo : Fin 4) (w : Width) (v : Word) (s : State) : Host.Outcome State Fault Refusal :=
  execWrite (.reg (.str .fifow 5)) lo w v s

/-- RD.SD5FIFOS: R241. -/
def execRdSD5FIFOS (lo : Fin 4) (w : Width) (s : State) : Host.Outcome State Fault Refusal :=
  execRead (.reg (.str .fifos 5)) lo w s

/-- WR.SD5FIFOS: R241. -/
def execWrSD5FIFOS (lo : Fin 4) (w : Width) (v : Word) (s : State) : Host.Outcome State Fault Refusal :=
  execWrite (.reg (.str .fifos 5)) lo w v s

/-- RD.SD5FMT: R242. -/
def execRdSD5FMT (lo : Fin 4) (w : Width) (s : State) : Host.Outcome State Fault Refusal :=
  execRead (.reg (.str .fmt 5)) lo w s

/-- WR.SD5FMT: R242. -/
def execWrSD5FMT (lo : Fin 4) (w : Width) (v : Word) (s : State) : Host.Outcome State Fault Refusal :=
  execWrite (.reg (.str .fmt 5)) lo w v s

/-- RD.SD5BDPL: R243. -/
def execRdSD5BDPL (lo : Fin 4) (w : Width) (s : State) : Host.Outcome State Fault Refusal :=
  execRead (.reg (.str .bdpl 5)) lo w s

/-- WR.SD5BDPL: R243. -/
def execWrSD5BDPL (lo : Fin 4) (w : Width) (v : Word) (s : State) : Host.Outcome State Fault Refusal :=
  execWrite (.reg (.str .bdpl 5)) lo w v s

/-- RD.SD5BDPU: R244. -/
def execRdSD5BDPU (lo : Fin 4) (w : Width) (s : State) : Host.Outcome State Fault Refusal :=
  execRead (.reg (.str .bdpu 5)) lo w s

/-- WR.SD5BDPU: R244. -/
def execWrSD5BDPU (lo : Fin 4) (w : Width) (v : Word) (s : State) : Host.Outcome State Fault Refusal :=
  execWrite (.reg (.str .bdpu 5)) lo w v s

/-- RD.SD6CTL: R234. -/
def execRdSD6CTL (lo : Fin 4) (w : Width) (s : State) : Host.Outcome State Fault Refusal :=
  execRead (.reg (.str .ctl 6)) lo w s

/-- WR.SD6CTL: R233. -/
def execWrSD6CTL (lo : Fin 4) (w : Width) (v : Word) (s : State) : Host.Outcome State Fault Refusal :=
  execWrite (.reg (.str .ctl 6)) lo w v s

/-- RD.SD6STS: R245. -/
def execRdSD6STS (lo : Fin 4) (w : Width) (s : State) : Host.Outcome State Fault Refusal :=
  execRead (.reg (.str .sts 6)) lo w s

/-- WR.SD6STS: R235. -/
def execWrSD6STS (lo : Fin 4) (w : Width) (v : Word) (s : State) : Host.Outcome State Fault Refusal :=
  execWrite (.reg (.str .sts 6)) lo w v s

/-- RD.SD6LPIB: R237. -/
def execRdSD6LPIB (lo : Fin 4) (w : Width) (s : State) : Host.Outcome State Fault Refusal :=
  execRead (.reg (.str .lpib 6)) lo w s

/-- WR.SD6LPIB: R237. -/
def execWrSD6LPIB (lo : Fin 4) (w : Width) (v : Word) (s : State) : Host.Outcome State Fault Refusal :=
  execWrite (.reg (.str .lpib 6)) lo w v s

/-- RD.SD6CBL: R238. -/
def execRdSD6CBL (lo : Fin 4) (w : Width) (s : State) : Host.Outcome State Fault Refusal :=
  execRead (.reg (.str .cbl 6)) lo w s

/-- WR.SD6CBL: R238. -/
def execWrSD6CBL (lo : Fin 4) (w : Width) (v : Word) (s : State) : Host.Outcome State Fault Refusal :=
  execWrite (.reg (.str .cbl 6)) lo w v s

/-- RD.SD6LVI: R239. -/
def execRdSD6LVI (lo : Fin 4) (w : Width) (s : State) : Host.Outcome State Fault Refusal :=
  execRead (.reg (.str .lvi 6)) lo w s

/-- WR.SD6LVI: R239. -/
def execWrSD6LVI (lo : Fin 4) (w : Width) (v : Word) (s : State) : Host.Outcome State Fault Refusal :=
  execWrite (.reg (.str .lvi 6)) lo w v s

/-- RD.SD6FIFOW: R240. -/
def execRdSD6FIFOW (lo : Fin 4) (w : Width) (s : State) : Host.Outcome State Fault Refusal :=
  execRead (.reg (.str .fifow 6)) lo w s

/-- WR.SD6FIFOW: R240. -/
def execWrSD6FIFOW (lo : Fin 4) (w : Width) (v : Word) (s : State) : Host.Outcome State Fault Refusal :=
  execWrite (.reg (.str .fifow 6)) lo w v s

/-- RD.SD6FIFOS: R241. -/
def execRdSD6FIFOS (lo : Fin 4) (w : Width) (s : State) : Host.Outcome State Fault Refusal :=
  execRead (.reg (.str .fifos 6)) lo w s

/-- WR.SD6FIFOS: R241. -/
def execWrSD6FIFOS (lo : Fin 4) (w : Width) (v : Word) (s : State) : Host.Outcome State Fault Refusal :=
  execWrite (.reg (.str .fifos 6)) lo w v s

/-- RD.SD6FMT: R242. -/
def execRdSD6FMT (lo : Fin 4) (w : Width) (s : State) : Host.Outcome State Fault Refusal :=
  execRead (.reg (.str .fmt 6)) lo w s

/-- WR.SD6FMT: R242. -/
def execWrSD6FMT (lo : Fin 4) (w : Width) (v : Word) (s : State) : Host.Outcome State Fault Refusal :=
  execWrite (.reg (.str .fmt 6)) lo w v s

/-- RD.SD6BDPL: R243. -/
def execRdSD6BDPL (lo : Fin 4) (w : Width) (s : State) : Host.Outcome State Fault Refusal :=
  execRead (.reg (.str .bdpl 6)) lo w s

/-- WR.SD6BDPL: R243. -/
def execWrSD6BDPL (lo : Fin 4) (w : Width) (v : Word) (s : State) : Host.Outcome State Fault Refusal :=
  execWrite (.reg (.str .bdpl 6)) lo w v s

/-- RD.SD6BDPU: R244. -/
def execRdSD6BDPU (lo : Fin 4) (w : Width) (s : State) : Host.Outcome State Fault Refusal :=
  execRead (.reg (.str .bdpu 6)) lo w s

/-- WR.SD6BDPU: R244. -/
def execWrSD6BDPU (lo : Fin 4) (w : Width) (v : Word) (s : State) : Host.Outcome State Fault Refusal :=
  execWrite (.reg (.str .bdpu 6)) lo w v s

/-- RD.SD7CTL: R234. -/
def execRdSD7CTL (lo : Fin 4) (w : Width) (s : State) : Host.Outcome State Fault Refusal :=
  execRead (.reg (.str .ctl 7)) lo w s

/-- WR.SD7CTL: R233. -/
def execWrSD7CTL (lo : Fin 4) (w : Width) (v : Word) (s : State) : Host.Outcome State Fault Refusal :=
  execWrite (.reg (.str .ctl 7)) lo w v s

/-- RD.SD7STS: R245. -/
def execRdSD7STS (lo : Fin 4) (w : Width) (s : State) : Host.Outcome State Fault Refusal :=
  execRead (.reg (.str .sts 7)) lo w s

/-- WR.SD7STS: R235. -/
def execWrSD7STS (lo : Fin 4) (w : Width) (v : Word) (s : State) : Host.Outcome State Fault Refusal :=
  execWrite (.reg (.str .sts 7)) lo w v s

/-- RD.SD7LPIB: R237. -/
def execRdSD7LPIB (lo : Fin 4) (w : Width) (s : State) : Host.Outcome State Fault Refusal :=
  execRead (.reg (.str .lpib 7)) lo w s

/-- WR.SD7LPIB: R237. -/
def execWrSD7LPIB (lo : Fin 4) (w : Width) (v : Word) (s : State) : Host.Outcome State Fault Refusal :=
  execWrite (.reg (.str .lpib 7)) lo w v s

/-- RD.SD7CBL: R238. -/
def execRdSD7CBL (lo : Fin 4) (w : Width) (s : State) : Host.Outcome State Fault Refusal :=
  execRead (.reg (.str .cbl 7)) lo w s

/-- WR.SD7CBL: R238. -/
def execWrSD7CBL (lo : Fin 4) (w : Width) (v : Word) (s : State) : Host.Outcome State Fault Refusal :=
  execWrite (.reg (.str .cbl 7)) lo w v s

/-- RD.SD7LVI: R239. -/
def execRdSD7LVI (lo : Fin 4) (w : Width) (s : State) : Host.Outcome State Fault Refusal :=
  execRead (.reg (.str .lvi 7)) lo w s

/-- WR.SD7LVI: R239. -/
def execWrSD7LVI (lo : Fin 4) (w : Width) (v : Word) (s : State) : Host.Outcome State Fault Refusal :=
  execWrite (.reg (.str .lvi 7)) lo w v s

/-- RD.SD7FIFOW: R240. -/
def execRdSD7FIFOW (lo : Fin 4) (w : Width) (s : State) : Host.Outcome State Fault Refusal :=
  execRead (.reg (.str .fifow 7)) lo w s

/-- WR.SD7FIFOW: R240. -/
def execWrSD7FIFOW (lo : Fin 4) (w : Width) (v : Word) (s : State) : Host.Outcome State Fault Refusal :=
  execWrite (.reg (.str .fifow 7)) lo w v s

/-- RD.SD7FIFOS: R241. -/
def execRdSD7FIFOS (lo : Fin 4) (w : Width) (s : State) : Host.Outcome State Fault Refusal :=
  execRead (.reg (.str .fifos 7)) lo w s

/-- WR.SD7FIFOS: R241. -/
def execWrSD7FIFOS (lo : Fin 4) (w : Width) (v : Word) (s : State) : Host.Outcome State Fault Refusal :=
  execWrite (.reg (.str .fifos 7)) lo w v s

/-- RD.SD7FMT: R242. -/
def execRdSD7FMT (lo : Fin 4) (w : Width) (s : State) : Host.Outcome State Fault Refusal :=
  execRead (.reg (.str .fmt 7)) lo w s

/-- WR.SD7FMT: R242. -/
def execWrSD7FMT (lo : Fin 4) (w : Width) (v : Word) (s : State) : Host.Outcome State Fault Refusal :=
  execWrite (.reg (.str .fmt 7)) lo w v s

/-- RD.SD7BDPL: R243. -/
def execRdSD7BDPL (lo : Fin 4) (w : Width) (s : State) : Host.Outcome State Fault Refusal :=
  execRead (.reg (.str .bdpl 7)) lo w s

/-- WR.SD7BDPL: R243. -/
def execWrSD7BDPL (lo : Fin 4) (w : Width) (v : Word) (s : State) : Host.Outcome State Fault Refusal :=
  execWrite (.reg (.str .bdpl 7)) lo w v s

/-- RD.SD7BDPU: R244. -/
def execRdSD7BDPU (lo : Fin 4) (w : Width) (s : State) : Host.Outcome State Fault Refusal :=
  execRead (.reg (.str .bdpu 7)) lo w s

/-- WR.SD7BDPU: R244. -/
def execWrSD7BDPU (lo : Fin 4) (w : Width) (v : Word) (s : State) : Host.Outcome State Fault Refusal :=
  execWrite (.reg (.str .bdpu 7)) lo w v s

end Sys2Proof.Machine
end

