-- ==== Sys2Proof/Machine/Dispatch.lean ====
section
/-! DEFINITION. The dispatch of an instruction to its meaning, one arm per row of the opcode table. -/

namespace Sys2Proof.Machine

def exec (i : Instr) (s : State) : Host.Outcome State Fault Refusal :=
  match i with
  | .rdGCAP lo w => Sys2Proof.Machine.execRdGCAP lo w s
  | .wrGCAP lo w v => Sys2Proof.Machine.execWrGCAP lo w v s
  | .rdVMIN lo w => Sys2Proof.Machine.execRdVMIN lo w s
  | .wrVMIN lo w v => Sys2Proof.Machine.execWrVMIN lo w v s
  | .rdVMAJ lo w => Sys2Proof.Machine.execRdVMAJ lo w s
  | .wrVMAJ lo w v => Sys2Proof.Machine.execWrVMAJ lo w v s
  | .rdOUTPAY lo w => Sys2Proof.Machine.execRdOUTPAY lo w s
  | .wrOUTPAY lo w v => Sys2Proof.Machine.execWrOUTPAY lo w v s
  | .rdINPAY lo w => Sys2Proof.Machine.execRdINPAY lo w s
  | .wrINPAY lo w v => Sys2Proof.Machine.execWrINPAY lo w v s
  | .rdGCTL lo w => Sys2Proof.Machine.execRdGCTL lo w s
  | .wrGCTL lo w v => Sys2Proof.Machine.execWrGCTL lo w v s
  | .rdWAKEEN lo w => Sys2Proof.Machine.execRdWAKEEN lo w s
  | .wrWAKEEN lo w v => Sys2Proof.Machine.execWrWAKEEN lo w v s
  | .rdSTATESTS lo w => Sys2Proof.Machine.execRdSTATESTS lo w s
  | .wrSTATESTS lo w v => Sys2Proof.Machine.execWrSTATESTS lo w v s
  | .rdGSTS lo w => Sys2Proof.Machine.execRdGSTS lo w s
  | .wrGSTS lo w v => Sys2Proof.Machine.execWrGSTS lo w v s
  | .rdINTCTL lo w => Sys2Proof.Machine.execRdINTCTL lo w s
  | .wrINTCTL lo w v => Sys2Proof.Machine.execWrINTCTL lo w v s
  | .rdINTSTS lo w => Sys2Proof.Machine.execRdINTSTS lo w s
  | .wrINTSTS lo w v => Sys2Proof.Machine.execWrINTSTS lo w v s
  | .rdWALCLK lo w => Sys2Proof.Machine.execRdWALCLK lo w s
  | .wrWALCLK lo w v => Sys2Proof.Machine.execWrWALCLK lo w v s
  | .rdCORBLBASE lo w => Sys2Proof.Machine.execRdCORBLBASE lo w s
  | .wrCORBLBASE lo w v => Sys2Proof.Machine.execWrCORBLBASE lo w v s
  | .rdCORBUBASE lo w => Sys2Proof.Machine.execRdCORBUBASE lo w s
  | .wrCORBUBASE lo w v => Sys2Proof.Machine.execWrCORBUBASE lo w v s
  | .rdCORBWP lo w => Sys2Proof.Machine.execRdCORBWP lo w s
  | .wrCORBWP lo w v => Sys2Proof.Machine.execWrCORBWP lo w v s
  | .rdCORBRP lo w => Sys2Proof.Machine.execRdCORBRP lo w s
  | .wrCORBRP lo w v => Sys2Proof.Machine.execWrCORBRP lo w v s
  | .rdCORBCTL lo w => Sys2Proof.Machine.execRdCORBCTL lo w s
  | .wrCORBCTL lo w v => Sys2Proof.Machine.execWrCORBCTL lo w v s
  | .rdCORBSTS lo w => Sys2Proof.Machine.execRdCORBSTS lo w s
  | .wrCORBSTS lo w v => Sys2Proof.Machine.execWrCORBSTS lo w v s
  | .rdCORBSIZE lo w => Sys2Proof.Machine.execRdCORBSIZE lo w s
  | .wrCORBSIZE lo w v => Sys2Proof.Machine.execWrCORBSIZE lo w v s
  | .rdRIRBLBASE lo w => Sys2Proof.Machine.execRdRIRBLBASE lo w s
  | .wrRIRBLBASE lo w v => Sys2Proof.Machine.execWrRIRBLBASE lo w v s
  | .rdRIRBUBASE lo w => Sys2Proof.Machine.execRdRIRBUBASE lo w s
  | .wrRIRBUBASE lo w v => Sys2Proof.Machine.execWrRIRBUBASE lo w v s
  | .rdRIRBWP lo w => Sys2Proof.Machine.execRdRIRBWP lo w s
  | .wrRIRBWP lo w v => Sys2Proof.Machine.execWrRIRBWP lo w v s
  | .rdRINTCNT lo w => Sys2Proof.Machine.execRdRINTCNT lo w s
  | .wrRINTCNT lo w v => Sys2Proof.Machine.execWrRINTCNT lo w v s
  | .rdRIRBCTL lo w => Sys2Proof.Machine.execRdRIRBCTL lo w s
  | .wrRIRBCTL lo w v => Sys2Proof.Machine.execWrRIRBCTL lo w v s
  | .rdRIRBSTS lo w => Sys2Proof.Machine.execRdRIRBSTS lo w s
  | .wrRIRBSTS lo w v => Sys2Proof.Machine.execWrRIRBSTS lo w v s
  | .rdRIRBSIZE lo w => Sys2Proof.Machine.execRdRIRBSIZE lo w s
  | .wrRIRBSIZE lo w v => Sys2Proof.Machine.execWrRIRBSIZE lo w v s
  | .rdSD0CTL lo w => Sys2Proof.Machine.execRdSD0CTL lo w s
  | .wrSD0CTL lo w v => Sys2Proof.Machine.execWrSD0CTL lo w v s
  | .rdSD0STS lo w => Sys2Proof.Machine.execRdSD0STS lo w s
  | .wrSD0STS lo w v => Sys2Proof.Machine.execWrSD0STS lo w v s
  | .rdSD0LPIB lo w => Sys2Proof.Machine.execRdSD0LPIB lo w s
  | .wrSD0LPIB lo w v => Sys2Proof.Machine.execWrSD0LPIB lo w v s
  | .rdSD0CBL lo w => Sys2Proof.Machine.execRdSD0CBL lo w s
  | .wrSD0CBL lo w v => Sys2Proof.Machine.execWrSD0CBL lo w v s
  | .rdSD0LVI lo w => Sys2Proof.Machine.execRdSD0LVI lo w s
  | .wrSD0LVI lo w v => Sys2Proof.Machine.execWrSD0LVI lo w v s
  | .rdSD0FIFOW lo w => Sys2Proof.Machine.execRdSD0FIFOW lo w s
  | .wrSD0FIFOW lo w v => Sys2Proof.Machine.execWrSD0FIFOW lo w v s
  | .rdSD0FIFOS lo w => Sys2Proof.Machine.execRdSD0FIFOS lo w s
  | .wrSD0FIFOS lo w v => Sys2Proof.Machine.execWrSD0FIFOS lo w v s
  | .rdSD0FMT lo w => Sys2Proof.Machine.execRdSD0FMT lo w s
  | .wrSD0FMT lo w v => Sys2Proof.Machine.execWrSD0FMT lo w v s
  | .rdSD0BDPL lo w => Sys2Proof.Machine.execRdSD0BDPL lo w s
  | .wrSD0BDPL lo w v => Sys2Proof.Machine.execWrSD0BDPL lo w v s
  | .rdSD0BDPU lo w => Sys2Proof.Machine.execRdSD0BDPU lo w s
  | .wrSD0BDPU lo w v => Sys2Proof.Machine.execWrSD0BDPU lo w v s
  | .rdSD1CTL lo w => Sys2Proof.Machine.execRdSD1CTL lo w s
  | .wrSD1CTL lo w v => Sys2Proof.Machine.execWrSD1CTL lo w v s
  | .rdSD1STS lo w => Sys2Proof.Machine.execRdSD1STS lo w s
  | .wrSD1STS lo w v => Sys2Proof.Machine.execWrSD1STS lo w v s
  | .rdSD1LPIB lo w => Sys2Proof.Machine.execRdSD1LPIB lo w s
  | .wrSD1LPIB lo w v => Sys2Proof.Machine.execWrSD1LPIB lo w v s
  | .rdSD1CBL lo w => Sys2Proof.Machine.execRdSD1CBL lo w s
  | .wrSD1CBL lo w v => Sys2Proof.Machine.execWrSD1CBL lo w v s
  | .rdSD1LVI lo w => Sys2Proof.Machine.execRdSD1LVI lo w s
  | .wrSD1LVI lo w v => Sys2Proof.Machine.execWrSD1LVI lo w v s
  | .rdSD1FIFOW lo w => Sys2Proof.Machine.execRdSD1FIFOW lo w s
  | .wrSD1FIFOW lo w v => Sys2Proof.Machine.execWrSD1FIFOW lo w v s
  | .rdSD1FIFOS lo w => Sys2Proof.Machine.execRdSD1FIFOS lo w s
  | .wrSD1FIFOS lo w v => Sys2Proof.Machine.execWrSD1FIFOS lo w v s
  | .rdSD1FMT lo w => Sys2Proof.Machine.execRdSD1FMT lo w s
  | .wrSD1FMT lo w v => Sys2Proof.Machine.execWrSD1FMT lo w v s
  | .rdSD1BDPL lo w => Sys2Proof.Machine.execRdSD1BDPL lo w s
  | .wrSD1BDPL lo w v => Sys2Proof.Machine.execWrSD1BDPL lo w v s
  | .rdSD1BDPU lo w => Sys2Proof.Machine.execRdSD1BDPU lo w s
  | .wrSD1BDPU lo w v => Sys2Proof.Machine.execWrSD1BDPU lo w v s
  | .rdSD2CTL lo w => Sys2Proof.Machine.execRdSD2CTL lo w s
  | .wrSD2CTL lo w v => Sys2Proof.Machine.execWrSD2CTL lo w v s
  | .rdSD2STS lo w => Sys2Proof.Machine.execRdSD2STS lo w s
  | .wrSD2STS lo w v => Sys2Proof.Machine.execWrSD2STS lo w v s
  | .rdSD2LPIB lo w => Sys2Proof.Machine.execRdSD2LPIB lo w s
  | .wrSD2LPIB lo w v => Sys2Proof.Machine.execWrSD2LPIB lo w v s
  | .rdSD2CBL lo w => Sys2Proof.Machine.execRdSD2CBL lo w s
  | .wrSD2CBL lo w v => Sys2Proof.Machine.execWrSD2CBL lo w v s
  | .rdSD2LVI lo w => Sys2Proof.Machine.execRdSD2LVI lo w s
  | .wrSD2LVI lo w v => Sys2Proof.Machine.execWrSD2LVI lo w v s
  | .rdSD2FIFOW lo w => Sys2Proof.Machine.execRdSD2FIFOW lo w s
  | .wrSD2FIFOW lo w v => Sys2Proof.Machine.execWrSD2FIFOW lo w v s
  | .rdSD2FIFOS lo w => Sys2Proof.Machine.execRdSD2FIFOS lo w s
  | .wrSD2FIFOS lo w v => Sys2Proof.Machine.execWrSD2FIFOS lo w v s
  | .rdSD2FMT lo w => Sys2Proof.Machine.execRdSD2FMT lo w s
  | .wrSD2FMT lo w v => Sys2Proof.Machine.execWrSD2FMT lo w v s
  | .rdSD2BDPL lo w => Sys2Proof.Machine.execRdSD2BDPL lo w s
  | .wrSD2BDPL lo w v => Sys2Proof.Machine.execWrSD2BDPL lo w v s
  | .rdSD2BDPU lo w => Sys2Proof.Machine.execRdSD2BDPU lo w s
  | .wrSD2BDPU lo w v => Sys2Proof.Machine.execWrSD2BDPU lo w v s
  | .rdSD3CTL lo w => Sys2Proof.Machine.execRdSD3CTL lo w s
  | .wrSD3CTL lo w v => Sys2Proof.Machine.execWrSD3CTL lo w v s
  | .rdSD3STS lo w => Sys2Proof.Machine.execRdSD3STS lo w s
  | .wrSD3STS lo w v => Sys2Proof.Machine.execWrSD3STS lo w v s
  | .rdSD3LPIB lo w => Sys2Proof.Machine.execRdSD3LPIB lo w s
  | .wrSD3LPIB lo w v => Sys2Proof.Machine.execWrSD3LPIB lo w v s
  | .rdSD3CBL lo w => Sys2Proof.Machine.execRdSD3CBL lo w s
  | .wrSD3CBL lo w v => Sys2Proof.Machine.execWrSD3CBL lo w v s
  | .rdSD3LVI lo w => Sys2Proof.Machine.execRdSD3LVI lo w s
  | .wrSD3LVI lo w v => Sys2Proof.Machine.execWrSD3LVI lo w v s
  | .rdSD3FIFOW lo w => Sys2Proof.Machine.execRdSD3FIFOW lo w s
  | .wrSD3FIFOW lo w v => Sys2Proof.Machine.execWrSD3FIFOW lo w v s
  | .rdSD3FIFOS lo w => Sys2Proof.Machine.execRdSD3FIFOS lo w s
  | .wrSD3FIFOS lo w v => Sys2Proof.Machine.execWrSD3FIFOS lo w v s
  | .rdSD3FMT lo w => Sys2Proof.Machine.execRdSD3FMT lo w s
  | .wrSD3FMT lo w v => Sys2Proof.Machine.execWrSD3FMT lo w v s
  | .rdSD3BDPL lo w => Sys2Proof.Machine.execRdSD3BDPL lo w s
  | .wrSD3BDPL lo w v => Sys2Proof.Machine.execWrSD3BDPL lo w v s
  | .rdSD3BDPU lo w => Sys2Proof.Machine.execRdSD3BDPU lo w s
  | .wrSD3BDPU lo w v => Sys2Proof.Machine.execWrSD3BDPU lo w v s
  | .rdSD4CTL lo w => Sys2Proof.Machine.execRdSD4CTL lo w s
  | .wrSD4CTL lo w v => Sys2Proof.Machine.execWrSD4CTL lo w v s
  | .rdSD4STS lo w => Sys2Proof.Machine.execRdSD4STS lo w s
  | .wrSD4STS lo w v => Sys2Proof.Machine.execWrSD4STS lo w v s
  | .rdSD4LPIB lo w => Sys2Proof.Machine.execRdSD4LPIB lo w s
  | .wrSD4LPIB lo w v => Sys2Proof.Machine.execWrSD4LPIB lo w v s
  | .rdSD4CBL lo w => Sys2Proof.Machine.execRdSD4CBL lo w s
  | .wrSD4CBL lo w v => Sys2Proof.Machine.execWrSD4CBL lo w v s
  | .rdSD4LVI lo w => Sys2Proof.Machine.execRdSD4LVI lo w s
  | .wrSD4LVI lo w v => Sys2Proof.Machine.execWrSD4LVI lo w v s
  | .rdSD4FIFOW lo w => Sys2Proof.Machine.execRdSD4FIFOW lo w s
  | .wrSD4FIFOW lo w v => Sys2Proof.Machine.execWrSD4FIFOW lo w v s
  | .rdSD4FIFOS lo w => Sys2Proof.Machine.execRdSD4FIFOS lo w s
  | .wrSD4FIFOS lo w v => Sys2Proof.Machine.execWrSD4FIFOS lo w v s
  | .rdSD4FMT lo w => Sys2Proof.Machine.execRdSD4FMT lo w s
  | .wrSD4FMT lo w v => Sys2Proof.Machine.execWrSD4FMT lo w v s
  | .rdSD4BDPL lo w => Sys2Proof.Machine.execRdSD4BDPL lo w s
  | .wrSD4BDPL lo w v => Sys2Proof.Machine.execWrSD4BDPL lo w v s
  | .rdSD4BDPU lo w => Sys2Proof.Machine.execRdSD4BDPU lo w s
  | .wrSD4BDPU lo w v => Sys2Proof.Machine.execWrSD4BDPU lo w v s
  | .rdSD5CTL lo w => Sys2Proof.Machine.execRdSD5CTL lo w s
  | .wrSD5CTL lo w v => Sys2Proof.Machine.execWrSD5CTL lo w v s
  | .rdSD5STS lo w => Sys2Proof.Machine.execRdSD5STS lo w s
  | .wrSD5STS lo w v => Sys2Proof.Machine.execWrSD5STS lo w v s
  | .rdSD5LPIB lo w => Sys2Proof.Machine.execRdSD5LPIB lo w s
  | .wrSD5LPIB lo w v => Sys2Proof.Machine.execWrSD5LPIB lo w v s
  | .rdSD5CBL lo w => Sys2Proof.Machine.execRdSD5CBL lo w s
  | .wrSD5CBL lo w v => Sys2Proof.Machine.execWrSD5CBL lo w v s
  | .rdSD5LVI lo w => Sys2Proof.Machine.execRdSD5LVI lo w s
  | .wrSD5LVI lo w v => Sys2Proof.Machine.execWrSD5LVI lo w v s
  | .rdSD5FIFOW lo w => Sys2Proof.Machine.execRdSD5FIFOW lo w s
  | .wrSD5FIFOW lo w v => Sys2Proof.Machine.execWrSD5FIFOW lo w v s
  | .rdSD5FIFOS lo w => Sys2Proof.Machine.execRdSD5FIFOS lo w s
  | .wrSD5FIFOS lo w v => Sys2Proof.Machine.execWrSD5FIFOS lo w v s
  | .rdSD5FMT lo w => Sys2Proof.Machine.execRdSD5FMT lo w s
  | .wrSD5FMT lo w v => Sys2Proof.Machine.execWrSD5FMT lo w v s
  | .rdSD5BDPL lo w => Sys2Proof.Machine.execRdSD5BDPL lo w s
  | .wrSD5BDPL lo w v => Sys2Proof.Machine.execWrSD5BDPL lo w v s
  | .rdSD5BDPU lo w => Sys2Proof.Machine.execRdSD5BDPU lo w s
  | .wrSD5BDPU lo w v => Sys2Proof.Machine.execWrSD5BDPU lo w v s
  | .rdSD6CTL lo w => Sys2Proof.Machine.execRdSD6CTL lo w s
  | .wrSD6CTL lo w v => Sys2Proof.Machine.execWrSD6CTL lo w v s
  | .rdSD6STS lo w => Sys2Proof.Machine.execRdSD6STS lo w s
  | .wrSD6STS lo w v => Sys2Proof.Machine.execWrSD6STS lo w v s
  | .rdSD6LPIB lo w => Sys2Proof.Machine.execRdSD6LPIB lo w s
  | .wrSD6LPIB lo w v => Sys2Proof.Machine.execWrSD6LPIB lo w v s
  | .rdSD6CBL lo w => Sys2Proof.Machine.execRdSD6CBL lo w s
  | .wrSD6CBL lo w v => Sys2Proof.Machine.execWrSD6CBL lo w v s
  | .rdSD6LVI lo w => Sys2Proof.Machine.execRdSD6LVI lo w s
  | .wrSD6LVI lo w v => Sys2Proof.Machine.execWrSD6LVI lo w v s
  | .rdSD6FIFOW lo w => Sys2Proof.Machine.execRdSD6FIFOW lo w s
  | .wrSD6FIFOW lo w v => Sys2Proof.Machine.execWrSD6FIFOW lo w v s
  | .rdSD6FIFOS lo w => Sys2Proof.Machine.execRdSD6FIFOS lo w s
  | .wrSD6FIFOS lo w v => Sys2Proof.Machine.execWrSD6FIFOS lo w v s
  | .rdSD6FMT lo w => Sys2Proof.Machine.execRdSD6FMT lo w s
  | .wrSD6FMT lo w v => Sys2Proof.Machine.execWrSD6FMT lo w v s
  | .rdSD6BDPL lo w => Sys2Proof.Machine.execRdSD6BDPL lo w s
  | .wrSD6BDPL lo w v => Sys2Proof.Machine.execWrSD6BDPL lo w v s
  | .rdSD6BDPU lo w => Sys2Proof.Machine.execRdSD6BDPU lo w s
  | .wrSD6BDPU lo w v => Sys2Proof.Machine.execWrSD6BDPU lo w v s
  | .rdSD7CTL lo w => Sys2Proof.Machine.execRdSD7CTL lo w s
  | .wrSD7CTL lo w v => Sys2Proof.Machine.execWrSD7CTL lo w v s
  | .rdSD7STS lo w => Sys2Proof.Machine.execRdSD7STS lo w s
  | .wrSD7STS lo w v => Sys2Proof.Machine.execWrSD7STS lo w v s
  | .rdSD7LPIB lo w => Sys2Proof.Machine.execRdSD7LPIB lo w s
  | .wrSD7LPIB lo w v => Sys2Proof.Machine.execWrSD7LPIB lo w v s
  | .rdSD7CBL lo w => Sys2Proof.Machine.execRdSD7CBL lo w s
  | .wrSD7CBL lo w v => Sys2Proof.Machine.execWrSD7CBL lo w v s
  | .rdSD7LVI lo w => Sys2Proof.Machine.execRdSD7LVI lo w s
  | .wrSD7LVI lo w v => Sys2Proof.Machine.execWrSD7LVI lo w v s
  | .rdSD7FIFOW lo w => Sys2Proof.Machine.execRdSD7FIFOW lo w s
  | .wrSD7FIFOW lo w v => Sys2Proof.Machine.execWrSD7FIFOW lo w v s
  | .rdSD7FIFOS lo w => Sys2Proof.Machine.execRdSD7FIFOS lo w s
  | .wrSD7FIFOS lo w v => Sys2Proof.Machine.execWrSD7FIFOS lo w v s
  | .rdSD7FMT lo w => Sys2Proof.Machine.execRdSD7FMT lo w s
  | .wrSD7FMT lo w v => Sys2Proof.Machine.execWrSD7FMT lo w v s
  | .rdSD7BDPL lo w => Sys2Proof.Machine.execRdSD7BDPL lo w s
  | .wrSD7BDPL lo w v => Sys2Proof.Machine.execWrSD7BDPL lo w v s
  | .rdSD7BDPU lo w => Sys2Proof.Machine.execRdSD7BDPU lo w s
  | .wrSD7BDPU lo w v => Sys2Proof.Machine.execWrSD7BDPU lo w v s
  | .rdWALCLKAlias lo w => Sys2Proof.Machine.execRdWALCLKAlias lo w s
  | .wrWALCLKAlias lo w v => Sys2Proof.Machine.execWrWALCLKAlias lo w v s
  | .rdSD0LPIBAlias lo w => Sys2Proof.Machine.execRdSD0LPIBAlias lo w s
  | .wrSD0LPIBAlias lo w v => Sys2Proof.Machine.execWrSD0LPIBAlias lo w v s
  | .rdSD1LPIBAlias lo w => Sys2Proof.Machine.execRdSD1LPIBAlias lo w s
  | .wrSD1LPIBAlias lo w v => Sys2Proof.Machine.execWrSD1LPIBAlias lo w v s
  | .rdSD2LPIBAlias lo w => Sys2Proof.Machine.execRdSD2LPIBAlias lo w s
  | .wrSD2LPIBAlias lo w v => Sys2Proof.Machine.execWrSD2LPIBAlias lo w v s
  | .rdSD3LPIBAlias lo w => Sys2Proof.Machine.execRdSD3LPIBAlias lo w s
  | .wrSD3LPIBAlias lo w v => Sys2Proof.Machine.execWrSD3LPIBAlias lo w v s
  | .rdSD4LPIBAlias lo w => Sys2Proof.Machine.execRdSD4LPIBAlias lo w s
  | .wrSD4LPIBAlias lo w v => Sys2Proof.Machine.execWrSD4LPIBAlias lo w v s
  | .rdSD5LPIBAlias lo w => Sys2Proof.Machine.execRdSD5LPIBAlias lo w s
  | .wrSD5LPIBAlias lo w v => Sys2Proof.Machine.execWrSD5LPIBAlias lo w v s
  | .rdSD6LPIBAlias lo w => Sys2Proof.Machine.execRdSD6LPIBAlias lo w s
  | .wrSD6LPIBAlias lo w v => Sys2Proof.Machine.execWrSD6LPIBAlias lo w v s
  | .rdSD7LPIBAlias lo w => Sys2Proof.Machine.execRdSD7LPIBAlias lo w s
  | .wrSD7LPIBAlias lo w v => Sys2Proof.Machine.execWrSD7LPIBAlias lo w v s
  | .rdUnmapped off w => Sys2Proof.Machine.execRdUnmapped off w s
  | .wrUnmapped off w v => Sys2Proof.Machine.execWrUnmapped off w v s
  | .drain => Sys2Proof.Machine.execDrain s
  | .tick n => Sys2Proof.Machine.execTick n s
  | .sink n k => Sys2Proof.Machine.execSink n k s
  | .time d => Sys2Proof.Machine.execTime d s
  | .save => Sys2Proof.Machine.execSave s
  | .restore => Sys2Proof.Machine.execRestore s
  | .poweroff => Sys2Proof.Machine.execPoweroff s
  | .poreset => Sys2Proof.Machine.execPoreset s

end Sys2Proof.Machine
end

