-- ==== Sys2Proof/Machine/Step.lean ====
section
/-! DEFINITION. One step: the next operation word of the sequence is decoded and performed
(20_memory.md R86: operations are atomic and totally ordered; 30_encoding.md R101: a sequence of
operations as words). The controller fetches no instructions (10_state.md R21); the sequence is what the
agents do, in the order in which they do it. -/

namespace Sys2Proof.Machine

/-- One step of the controller and its agents. -/
def step (s : State) : Host.Outcome State Fault Refusal :=
  match s.takeWord with
  | none => .refused .noOperation
  | some (x, t) =>
    match decode x with
    | .error e => .refused (.undecodable e)
    | .ok i => exec i t

/-- `s` with the operation word of the first `nbits` bits of `w` as the next operation. -/
def State.withFetchWord (s : State) (nbits w : Nat) : State := s.offerWord (BitVec.ofNat 64 (w % 2 ^ nbits))

end Sys2Proof.Machine
end

