-- ==== Sys2Proof/Safety.lean ====
section
/-! DEFINITION. What counts as a good state, in the terms the statements use: the invariants that
10_state.md R61, 60_exceptions.md R331, R332 and 70_reset_and_hazards.md R363 give every reachable state, and
the words in which the statements speak of transactions, of the commands a DRAIN has before it and of the guest
bytes a transfer has before it. -/

namespace Sys2Proof

/-! ### Bits that never change -/

/-- The registers whose stored value never changes: constants, and slots that nothing writes (R27 to
R29, R33, R35, R41, R55). -/
def Reg.constant : Reg → Bool
  | .glob .gcap => true
  | .glob .vmin => true
  | .glob .vmaj => true
  | .glob .outpay => true
  | .glob .inpay => true
  | .glob .gsts => true
  | .glob .intsts => true
  | .glob .corbsts => true
  | .str .fifos _ => true
  | _ => false

/-- The bits of a register that are what they are at reset for ever: FIFORDY is 1, FIFOE and OIS are 0,
the size registers offer every capacity (R42, R47, R48, R50). -/
def Reg.fixedBits : Reg → Word
  | .str .sts _ => 0x28
  | .glob .rirbsts => 0x04
  | .glob .corbsize => 0xF0
  | .glob .rirbsize => 0xF0
  | _ => 0

namespace Machine

/-! ### Guest memory -/

/-- Guest memory is in canonical form. -/
def MemoryOk (s : State) : Prop := s.mem.wf = true

/-! ### The interrupt wire -/

/-- The wire shows the line formula, here and in the saved record (R332). -/
def WireOk (s : State) : Prop :=
  s.irqLevel = s.regs.line ∧ ∀ r, s.saved = some r → r.irqLevel = r.regs.line

/-- Events, newest first, that end at a level and strictly alternate from a raise on (R331). -/
def alternates : Bool → List Bool → Bool
  | level, [] => !level
  | level, e :: rest => (level == e) && alternates (!e) rest

/-- The events on the wire so far alternate raise, lower, raise, and the last one is the level now. -/
def WireHistoryOk (s : State) : Prop := alternates s.irqLevel s.out.wire = true

/-! ### The rings -/

/-- Ring pointers are below their ring's capacity (R61 d). -/
def RegFile.pointersOk (f : RegFile) : Prop :=
  f.corbWp < f.corbCap ∧ f.corbRp < f.corbCap ∧ f.rirbWp < f.rirbCap

/-- R61 d and i, here and in the saved record. -/
def RingsOk (s : State) : Prop :=
  s.regs.pointersOk ∧ s.respPending ≤ 256 ∧ ∀ r, s.saved = some r → r.regs.pointersOk

/-! ### The registers -/

/-- The register file holds only what the field tables of 10_state.md allow. -/
structure RegFile.Legal (f : RegFile) : Prop where
  /-- Nothing is stored outside the readable bits. -/
  readable : ∀ r, f.rd r &&& ~~~r.rmask = 0
  /-- Constants hold their value. -/
  constant : ∀ r, r.constant = true → f.rd r = r.resetVal
  /-- Fixed bits hold their value. -/
  fixedBits : ∀ r, f.rd r &&& r.fixedBits = r.resetVal &&& r.fixedBits
  /-- Size code 3 is never stored (R42, R48). -/
  corbSize : f.rd (.glob .corbsize) &&& 3 ≠ 3
  rirbSize : f.rd (.glob .rirbsize) &&& 3 ≠ 3

/-- Legal registers, here and in the saved record. -/
def RegistersOk (s : State) : Prop := s.regs.Legal ∧ ∀ r, s.saved = some r → r.regs.Legal

/-! ### The streams -/

/-- What the registers of a stream keep (R61 h; 43_stream_registers.md R231): RUN is 0 in Reset, and a
running stream's position lies in its buffer or is 0. -/
structure RegFile.StreamLegal (f : RegFile) (n : Stream) : Prop where
  resetStops : f.srst n = true → f.run n = false
  position : f.run n = true → f.rd (.str .lpib n) = 0 ∨ (f.rd (.str .lpib n)).toNat < f.cbl n

/-- What an armed engine's record keeps (R61 b, c, g, h): it agrees with the stream's registers, its
schedule is the one its list and format give, and its position is inside list and schedule. -/
structure Dma.Armed (cfg : Config) (f : RegFile) (n : Stream) (d : Dma) : Prop where
  crst : f.crst = true
  run : f.run n = true
  srst : f.srst n = false
  entries : d.bdl.length = f.entryCount n
  total : totalLen d.bdl = f.cbl n
  nonempty : f.cbl n ≠ 0
  schedule : ∃ fmt, decodeFmt (f.rd (.str .fmt n)) = some fmt ∧ d.sched = buildSchedule cfg d.bdl fmt
  step : ∃ st, d.sched[d.schedIdx]? = some st ∧ d.schedLoop < st.loops
  entry : d.curEntry < f.entryCount n
  lpib : (f.rd (.str .lpib n)).toNat < f.cbl n

/-- What every stream keeps (R60, R61 b, c, f, g, h). -/
structure StreamOk (s : State) (n : Stream) : Prop where
  registers : s.regs.StreamLegal n
  inReset : (s.dmaOf n).inReset = s.regs.srst n
  armed : (s.dmaOf n).running = true → (s.dmaOf n).Armed s.cfg s.regs n
  idle : (s.dmaOf n).running = false → (s.dmaOf n).ring = []
  bounded : (s.dmaOf n).ring.length ≤ s.cfg.ringBytes.get n

/-- Every stream is in order, and so is what a RESTORE would take. -/
def StreamsOk (s : State) : Prop :=
  (∀ n, StreamOk s n) ∧
  ∀ r, s.saved = some r → ∀ n, r.regs.StreamLegal n ∧ (r.perStream.get n).inReset = r.regs.srst n

/-! ### Held in reset -/

/-- While the controller is held in reset every register holds its reset value and no engine has an
enabled step (R363); and so in the saved record. -/
def HeldOk (s : State) : Prop :=
  (s.regs.crst = false → (∀ r, s.regs.rd r = r.resetVal) ∧ s.corbKick = false ∧ ∀ n, (s.dmaOf n).running = false) ∧
  ∀ r, s.saved = some r → r.regs.crst = false → ∀ k, r.regs.rd k = k.resetVal

/-! ### The bytes a transfer has before it -/

/-- The guest addresses of an entry from an offset on. -/
def Bdle.addrsFrom (e : Bdle) (o : Nat) : List Nat := (List.range (e.len.toNat - o)).map fun i => e.addr.toNat + o + i

/-- The guest addresses of one pass over a list from position `(e, o)`, in the order in which a transfer
moves their bytes: the rest of the entry, the later entries, then the list from its start (R274, R304). -/
def passAddrs (bdl : List Bdle) (e o : Nat) : List Nat :=
  ((bdl[e]?.map fun d => d.addrsFrom o).getD []) ++
  (bdl.drop (e + 1) ++ bdl.take (e + 1)).flatMap fun d => d.addrsFrom 0

/-- The guest addresses of the next `b` bytes of stream `n`. -/
def nextAddrs (s : State) (n : Stream) (b : Nat) : List Nat :=
  (passAddrs (s.dmaOf n).bdl (s.dmaOf n).curEntry (s.dmaOf n).curOff).take b

/-- The spans of guest memory of one pass over a list from position `(e, o)`, as address and length, in the order in
which a transfer reaches them: no access of R274 crosses an entry. -/
def passSpans (bdl : List Bdle) (e o : Nat) : List (Nat × Nat) :=
  ((bdl[e]?.map fun d => [(d.addr.toNat + o, d.len.toNat - o)]).getD []) ++
  (bdl.drop (e + 1) ++ bdl.take (e + 1)).map fun d => (d.addr.toNat, d.len.toNat)

/-- The first `b` bytes of a list of spans: each span is cut to what is left of them (`c <- min(rem, len - o)`, R274). -/
def cutSpans : Nat → List (Nat × Nat) → List (Nat × Nat)
  | _, [] => []
  | b, (a, l) :: rest => (a, min b l) :: cutSpans (b - min b l) rest

/-- The guest-memory accesses of a transfer of `b` bytes of stream `n`, in order (R274). -/
def accesses (s : State) (n : Stream) (b : Nat) : List (Nat × Nat) :=
  cutSpans b (passSpans (s.dmaOf n).bdl (s.dmaOf n).curEntry (s.dmaOf n).curOff)

/-- The number of bytes of the accesses before the first one that covers a byte that is not backed: an access
that fails stores nothing, and those before it have stored all their bytes (20_memory.md R76; R274). -/
def bytesBeforeFailure (m : Memory) : List (Nat × Nat) → Nat
  | [] => 0
  | (a, c) :: rest => if (List.range c).all fun x => (m.byte (a + x)).isSome then c + bytesBeforeFailure m rest else 0

/-- The number of guest bytes that an aborted transfer of `b` bytes of stream `n` leaves written: none of an output
stream, which only reads (R274). -/
def bytesLanded (s : State) (n : Stream) (b : Nat) : Nat :=
  if isInput n then bytesBeforeFailure s.mem (accesses s n b) else 0

/-- Bytes stored one by one at a list of addresses, in order: what a transfer of an input stream does to
guest memory (R274). -/
def storeAll (m : Memory) : List Nat → List Byte → Memory
  | a :: as, b :: bs => storeAll (m.poke a b) as bs
  | _, _ => m

/-! ### What a read shows -/

/-- The value of a register that a guest reads: the derived status for INTSTS, the wall clock brought up to
date for WALCLK, the stored value for every other register, under the readable mask (R133, R141, R142). -/
def guestValue (s : State) (r : Reg) : Word :=
  (match r with
    | .glob .intsts => s.regs.intsts
    | .glob .walclk => (walclkEval s).reg (.glob .walclk)
    | _ => s.reg r) &&& r.rmask

/-- One of the bytes `off .. off+k-1` is a byte of WALCLK or of its second offset (R142, R340). -/
def coversClock (off k : Nat) : Bool :=
  (List.range k).any fun i => match decodeByte (off + i) with | some (r, _) => decide (r = .glob .walclk) | none => false

/-- `i` is a read transaction of width `w` at window offset `off`. -/
def ReadsAt (i : Instr) (off : Nat) (w : Width) : Prop :=
  (∃ t lo, i.form = .rd t lo w ∧ off = t.off + lo.val) ∨ ∃ o, i.form = .rdUnmapped o w ∧ off = o.toNat

/-- `i` is a write transaction of width `w` and value `v` at window offset `off`. -/
def WritesAt (i : Instr) (off : Nat) (w : Width) (v : Word) : Prop :=
  (∃ t lo, i.form = .wr t lo w v ∧ off = t.off + lo.val) ∨ ∃ o, i.form = .wrUnmapped o w v ∧ off = o.toNat

/-! ### What a write hands to a handler -/

/-- `i` is a write whose bytes all lie inside register `r`, the controller lets it through (R159), and `val`
is the full-width value its handler receives (R105, R136). -/
def RowWrite (i : Instr) (s : State) (r : Reg) (val : Word) : Prop :=
  (s.regs.crst = true ∨ r = .glob .gctl) ∧
  ∃ t lo w v, i.form = .wr t lo w v ∧ t.register = r ∧ lo.val + w.bytes ≤ r.width ∧
    val = merged (s.reg r) v ⟨some r, lo.val, lo.val + w.bytes - 1, 0⟩

/-- The answer of a sink to the `k`-th control call from now on (R92 c). -/
def sinkAnswerAt (s : State) (k : Nat) : Bool := (s.oracle.sink[k]?).getD (Config.sinkAnswer (s.oracle.sinkSeq + k))

/-- `bdl` is the list of stream `n` as a start reads it from the bytes of guest memory (R108, R262). -/
def ListRead (f : RegFile) (n : Stream) (bytes : List Byte) (bdl : List Bdle) : Prop :=
  bdl.length = f.entryCount n ∧
  ∀ i, i < f.entryCount n → bdl[i]? = some
    { addr := le64 (slice bytes (16 * i) 8), len := le32 (slice bytes (16 * i + 8) 4),
      ioc := (le32 (slice bytes (16 * i + 12) 4)).getLsbD 0 }

/-- The start preconditions of R263 for a list, with the format code decoded to `fmt`. -/
def StartOk (s : State) (n : Stream) (bdl : List Bdle) (fmt : Fmt) : Prop :=
  s.regs.cbl n ≠ 0 ∧ (∀ e ∈ bdl, e.len.toNat ≤ s.cfg.maxBdleBytes) ∧ (bdl.map fun e => e.len.toNat).sum = s.regs.cbl n ∧
  decodeFmt (s.reg (.str .fmt n)) = some fmt

/-! ### What a DRAIN has before it -/

/-- The number of commands between the pointers of the command ring (R191). -/
def outstanding (s : State) : Nat := (s.regs.corbWp + s.regs.corbCap - s.regs.corbRp) % s.regs.corbCap

/-- The ring index of the `k`-th of them, from 0 on. -/
def commandIndex (s : State) (k : Nat) : Nat := (s.regs.corbRp + 1 + k) % s.regs.corbCap

/-- Its command word: the one in guest memory, or 0 if the ring cannot be read (R106, R204, R209). -/
def commandAt (s : State) (k : Nat) : Word :=
  match s.mem.read (s.regs.corbBase + 4 * commandIndex s k) 4, s.mem.read s.regs.corbBase (4 * s.regs.corbCap) with
  | some bytes, some _ => le32 bytes
  | _, _ => 0

/-- The codec's answer to it, if the `k` commands before it have been looked up (R92 b). -/
def answerAt (s : State) (k : Nat) : Option Quad :=
  match s.oracle.codec[k]? with
  | some a => a
  | none => Config.codecAnswer (s.oracle.codecSeq + k) (commandAt s k)

/-- Its response: `NotFound` gives 0 (R214). -/
def responseAt (s : State) (k : Nat) : Quad := (answerAt s k).getD 0

/-- Its response is unsolicited while unsolicited responses are disabled (R205). -/
def suppressedAt (s : State) (k : Nat) : Bool :=
  (responseAt s k).getLsbD s.cfg.unsolBit.val && !s.regs.unsol

/-- Guest memory after a flush of a response mirror with the ring of `s` (R207, R209). -/
def flushedWith (s : State) (buf : Vector Quad 256) : Memory :=
  (s.mem.write s.regs.rirbBase ((List.range s.regs.rirbCap).flatMap fun i => toLe64 (buf[i]?.getD 0))).getD s.mem

/-- The addresses of the response ring in guest memory. -/
def inResponseRing (s : State) (a : Nat) : Prop :=
  s.regs.rirbBase ≤ a ∧ a < s.regs.rirbBase + 8 * s.regs.rirbCap

/-! ### What a TICK has before it -/

/-- A TICK of stream `n` is due in a state in which the stream is in order, with `st` as its current step (R271). -/
def TickDue (s : State) (n : Stream) (st : Step) : Prop :=
  StreamOk s n ∧ (s.dmaOf n).running = true ∧ (s.dmaOf n).tsNext ≤ s.now ∧
  (s.dmaOf n).sched[(s.dmaOf n).schedIdx]? = some st

/-- The consumer side is not ready for the step, or an interrupt is unacknowledged where that counts (R273). -/
def MustSkip (s : State) (n : Stream) (st : Step) : Prop :=
  ((s.dmaOf n).sinkOk = true ∧ isInput n = false ∧ s.cfg.ringBytes.get n < (s.dmaOf n).ring.length + st.bytes) ∨
  ((s.dmaOf n).sinkOk = true ∧ isInput n = true ∧ (s.dmaOf n).ring.length < st.bytes) ∨
  (s.cfg.holdOnPendingIrq = true ∧ 0 < (s.dmaOf n).pendingIrq)

/-- The bytes that a step of an input stream writes to guest memory (R274, R275). -/
def stepSource (s : State) (n : Stream) (st : Step) : List Byte :=
  if (s.dmaOf n).sinkOk then (s.dmaOf n).ring.take st.bytes else List.replicate st.bytes 0

/-- The last execution of the step, of which the last entry has IOC: an interrupt boundary is crossed (R278). -/
def crossesBoundary (s : State) (n : Stream) (st : Step) : Bool :=
  decide ((s.dmaOf n).schedLoop + 1 = st.loops) &&
  (((s.dmaOf n).bdl[st.first + st.count - 1]?.map (·.ioc)).getD false)

/-- The calls `Sink.stop` that disabling every armed stream makes, newest first (R283, R305). -/
def stopCalls (s : State) : List SinkCall := (allStreams.reverse.filter fun n => (s.dmaOf n).running).map SinkCall.stop

/-- The saved position of stream `n` lies inside the list (R309). -/
def SavedInside (r : Snapshot) (n : Stream) (bdl : List Bdle) : Prop :=
  ∃ e, bdl[(r.perStream.get n).curEntry]? = some e ∧ (r.perStream.get n).curOff ≤ e.len.toNat

/-- The streams below `n` whose engines are armed in `t`, counted: in the state after RESTORE, those for which the
sink was asked before stream `n` (R309, R305). -/
def armedBelow (t : State) (n : Stream) : Nat :=
  (allStreams.filter fun m => decide (m.val < n.val) && (t.dmaOf m).running).length

/-- The record of a stream right after RESTORE, as long as it is not re-armed (R309). -/
def placedDma (r : Snapshot) (n : Stream) : Dma :=
  { Dma.reset with
    inReset := (r.perStream.get n).inReset, curEntry := (r.perStream.get n).curEntry,
    curOff := (r.perStream.get n).curOff, tsNext := (r.perStream.get n).tsNext,
    pendingIrq := if r.regs.bcis n && r.regs.ioce n then 1 else 0 }

end Machine
end Sys2Proof
end

