-- ==== Sys2Proof/Certificates/Slice0/Obligations.lean ====
section
/-! DEFINITION. The statements for the provers. Each says in its docstring which rules of spec/ it
formalises. A statement about instructions names them by their form, so that it holds for every row of
the opcode table with that form. N_IN, N_OUT and WINDOW, which 92_eei_decisions.md lists as open, have their
default values 4, 4 and 0x4000 in the whole model: every statement is about these defaults only (log entry 4). -/

open Sys2Proof Sys2Proof.Machine

/-! ### The operation words (30_encoding.md R101) -/

/-- Every operation is encoded by a word that decodes to it (R101, R103, R104). -/
def Obligations.DecodeEncode : Prop := ∀ i : Instr, i.wf = true → decode (encode i) = .ok i

/-- A word that decodes is the word of the one operation it decodes to, and that operation is well-formed:
no two words encode the same operation, and no field of a word is ignored (R101). -/
def Obligations.EncodeDecode : Prop := ∀ (x : Quad) (i : Instr), decode x = .ok i → i.wf = true ∧ encode i = x

/-- The words that encode an operation, by their fields KIND, A, OFF and DATA; every other word is refused (R101). The
bounds 0x4000 and 8 are the defaults of WINDOW and N, the model's choice (log entry 4). -/
def Obligations.LegalWords : Prop :=
  ∀ x : Quad,
    let kind := (x.extractLsb' 60 4).toNat
    let a := (x.extractLsb' 56 4).toNat
    let off := (x.extractLsb' 32 24).toNat
    let data := (x.extractLsb' 0 32).toNat
    (∃ i, decode x = .ok i) ↔
      (kind = 0x0 ∧ 1 ≤ a ∧ a ≤ 4 ∧ off + a ≤ 0x4000 ∧ data = 0) ∨
      (kind = 0x1 ∧ 1 ≤ a ∧ a ≤ 4 ∧ off + a ≤ 0x4000 ∧ data < 2 ^ (8 * a)) ∨
      (kind = 0x3 ∧ a < 8 ∧ off = 0 ∧ data = 0) ∨
      (kind = 0x4 ∧ a < 8 ∧ off = 0) ∨
      (kind = 0x5 ∧ a = 0 ∧ off = 0) ∨
      ((kind = 0x2 ∨ kind = 0x6 ∨ kind = 0x7 ∨ kind = 0x8 ∨ kind = 0x9) ∧ a = 0 ∧ off = 0 ∧ data = 0)

/-- Words written out from R101 decode to the operations they stand for; the comments give the text of R102. -/
def Obligations.DecodedWords : Prop :=
  decode 0x0400000000000000 = .ok (.rdGCAP 0 .w4) ∧                      -- rd4 GCAP
  decode 0x1400000800000101 = .ok (.wrGCTL 0 .w4 0x101) ∧                -- wr4 GCTL, 0x101
  decode 0x1100000900000001 = .ok (.wrGCTL 1 .w1 0x01) ∧                 -- wr1 GCTL+1, 0x01
  decode 0x1200004800000003 = .ok (.wrCORBWP 0 .w2 0x0003) ∧             -- wr2 CORBWP, 0x0003
  decode 0x1300010000140006 = .ok (.wrSD4CTL 0 .w3 0x140006) ∧           -- wr3 SDCTL(4), 0x140006
  decode 0x0400208400000000 = .ok (.rdSD0LPIBAlias 0 .w4) ∧              -- rd4 0x2084
  decode 0x0400006000000000 = .ok (.rdUnmapped 0x60 .w4) ∧               -- rd4 0x0060
  decode 0x2000000000000000 = .ok .drain ∧                               -- drain
  decode 0x3400000000000000 = .ok (.tick 4) ∧                            -- tick 4
  decode 0x4400000000000400 = .ok (.sink 4 1024) ∧                       -- sink 4, 1024
  decode 0x5000000001458555 = .ok (.time 21333333) ∧                     -- time 21333333
  decode 0x9000000000000000 = .ok .poreset                               -- poreset

/-- A step takes the next word of the sequence of operations and performs the one operation that the word encodes, on
the state with the word taken; a word that encodes no operation is refused. That a word stands for an operation, and
which, is R101; that an operation is one transition is R86. The MODEL'S CHOICE (log entry 1): that the sequence is the
list `pending`, of which a step takes the head; that a step with nothing pending is refused as `noOperation`; and that
`withFetchWord` puts its word at the head. The refusals by name are log entry 6. -/
def Obligations.StepRunsDecoded : Prop :=
  ∀ s : State,
    (s.pending = [] → step s = .refused .noOperation) ∧
    (∀ x rest e, s.pending = x :: rest → decode x = .error e → step s = .refused (.undecodable e)) ∧
    (∀ x rest i, s.pending = x :: rest → decode x = .ok i → step s = exec i { s with pending := rest }) ∧
    (∀ nbits w i, decode (BitVec.ofNat 64 (w % 2 ^ nbits)) = .ok i → step (s.withFetchWord nbits w) = exec i s)

/-- No operation changes the parameters (R5); none but TIME changes the time base (R300, R301); none changes which guest
addresses are backed (R75). The MODEL'S CHOICE: that the sequence of operations to come is a list in the state that no
operation changes (log entry 1); that an address is backed at all times or never, because no other agent stores or
maps memory (log entry 2); and that only SAVE changes the saved record, which lasts over every other operation (log
entry 11). -/
def Obligations.OperationsLeaveTheOutside : Prop :=
  ∀ (i : Instr) (s t : State), exec i s = .next t →
    t.cfg = s.cfg ∧ t.pending = s.pending ∧ ((∀ d, i ≠ .time d) → t.now = s.now) ∧
    (i ≠ .save → t.saved = s.saved) ∧ ∀ a, (t.mem.byte a).isSome = (s.mem.byte a).isSome

/-! ### The register map (10_state.md R23 to R26) -/

/-- The layout properties of R26: (a) the entries are sorted by offset and do not overlap; (b) every
register has 1 to 4 bytes; (c) none crosses a dword boundary; (d) the map has gaps. -/
def Obligations.RegisterLayout : Prop :=
  (allRegs.Pairwise fun r r' => r.off + r.width ≤ r'.off) ∧
  (∀ r : Reg, 1 ≤ r.width ∧ r.width ≤ 4) ∧
  (∀ r : Reg, r.off / 4 = (r.off + r.width - 1) / 4) ∧
  ∀ o, (0x12 ≤ o ∧ o ≤ 0x1F) ∨ (0x28 ≤ o ∧ o ≤ 0x2F) ∨ (0x34 ≤ o ∧ o ≤ 0x3F) ∨ o = 0x4F ∨ (0x5F ≤ o ∧ o ≤ 0x7F) →
    decodeByte o = none

/-- The map of R23 to R25 in numbers: the offset, width, readable mask and writable mask of every register. Every byte
of every register decodes to it, the second offsets decode to the storage they share, and the unmapped offsets are the
ones that 40_mmio_dispatch.md R134 lists (R103). The numbers of streams are the defaults of R5 (log entry 4). -/
def Obligations.OffsetDecoding : Prop :=
  (∀ g off width rmask wmask, (g, off, width, rmask, wmask) ∈ ([
      (.gcap, 0x00, 2, 0xFFFF, 0x0000), (.vmin, 0x02, 1, 0xFF, 0x00), (.vmaj, 0x03, 1, 0xFF, 0x00),
      (.outpay, 0x04, 2, 0xFFFF, 0x0000), (.inpay, 0x06, 2, 0xFFFF, 0x0000),
      (.gctl, 0x08, 4, 0x00000103, 0x00000103), (.wakeen, 0x0C, 2, 0x7FFF, 0x7FFF),
      (.statests, 0x0E, 2, 0x7FFF, 0x7FFF), (.gsts, 0x10, 2, 0x0002, 0x0002),
      (.intctl, 0x20, 4, 0xC00000FF, 0xC00000FF), (.intsts, 0x24, 4, 0xC00000FF, 0x00000000),
      (.walclk, 0x30, 4, 0xFFFFFFFF, 0x00000000), (.corblbase, 0x40, 4, 0xFFFFFF80, 0xFFFFFF80),
      (.corbubase, 0x44, 4, 0xFFFFFFFF, 0xFFFFFFFF), (.corbwp, 0x48, 2, 0x00FF, 0x00FF),
      (.corbrp, 0x4A, 2, 0x80FF, 0x8000), (.corbctl, 0x4C, 1, 0x03, 0x03), (.corbsts, 0x4D, 1, 0x01, 0x01),
      (.corbsize, 0x4E, 1, 0xF3, 0x03), (.rirblbase, 0x50, 4, 0xFFFFFF80, 0xFFFFFF80),
      (.rirbubase, 0x54, 4, 0xFFFFFFFF, 0xFFFFFFFF), (.rirbwp, 0x58, 2, 0x00FF, 0x8000),
      (.rintcnt, 0x5A, 2, 0x00FF, 0x00FF), (.rirbctl, 0x5C, 1, 0x07, 0x07), (.rirbsts, 0x5D, 1, 0x05, 0x05),
      (.rirbsize, 0x5E, 1, 0xF3, 0x03)] : List (GReg × Nat × Nat × Word × Word)) →
    (Reg.glob g).off = off ∧ (Reg.glob g).width = width ∧ (Reg.glob g).rmask = rmask ∧ (Reg.glob g).wmask = wmask) ∧
  (∀ k off width rmask wmask, (k, off, width, rmask, wmask) ∈ ([
      (.ctl, 0x00, 3, 0xFF001F, 0xFF001F), (.sts, 0x03, 1, 0x3C, 0x1C), (.lpib, 0x04, 4, 0xFFFFFFFF, 0x00000000),
      (.cbl, 0x08, 4, 0xFFFFFFFF, 0xFFFFFFFF), (.lvi, 0x0C, 2, 0x00FF, 0x00FF), (.fifow, 0x0E, 2, 0x0007, 0x0007),
      (.fifos, 0x10, 2, 0x00FF, 0x0000), (.fmt, 0x12, 2, 0x7F7F, 0x7F7F), (.bdpl, 0x18, 4, 0xFFFFFF80, 0xFFFFFF80),
      (.bdpu, 0x1C, 4, 0xFFFFFFFF, 0xFFFFFFFF)] : List (SReg × Nat × Nat × Word × Word)) →
    ∀ n : Stream, (Reg.str k n).off = 0x80 + 0x20 * n.val + off ∧ (Reg.str k n).width = width ∧
      (Reg.str k n).rmask = rmask ∧ (Reg.str k n).wmask = wmask) ∧
  (∀ r : Reg, ∀ i < r.width, decodeByte (r.off + i) = some (r, i)) ∧
  (∀ i < 4, decodeByte (0x2030 + i) = some (.glob .walclk, i)) ∧
  (∀ n : Stream, ∀ i < 4, decodeByte (0x2084 + 0x20 * n.val + i) = some (.str .lpib n, i)) ∧
  ∀ o < 0x4000, decodeByte o = none ↔
    (0x12 ≤ o ∧ o ≤ 0x1F) ∨ (0x28 ≤ o ∧ o ≤ 0x2F) ∨ (0x34 ≤ o ∧ o ≤ 0x3F) ∨ o = 0x4F ∨ (0x5F ≤ o ∧ o ≤ 0x7F) ∨
    (∃ n : Stream, 0x94 + 0x20 * n.val ≤ o ∧ o ≤ 0x97 + 0x20 * n.val) ∨ (0x180 ≤ o ∧ o ≤ 0x202F) ∨
    (0x2034 ≤ o ∧ o ≤ 0x2083) ∨
    (0x2084 ≤ o ∧ ∀ n : Stream, ¬ (0x2084 + 0x20 * n.val ≤ o ∧ o ≤ 0x2087 + 0x20 * n.val))

/-- The state after reset: every register at the value of the tables of R23 and R24, every hidden variable
at the value of R58 and R59, the wire low (R65, R360, R362). The MODEL'S CHOICE: that no operation is pending (log
entry 1), that nothing was saved and PORESET is the first operation of the run (log entries 11 and 18), that the time
base stands at 0 (log entry 13), and that there are 8 streams of which 4 are inputs (log entry 4). -/
def Obligations.ResetValues : Prop :=
  (State.reset.reg (.glob .gcap) = 0x4401 ∧ State.reset.reg (.glob .vmaj) = 0x01 ∧
    State.reset.reg (.glob .outpay) = 0x003C ∧ State.reset.reg (.glob .inpay) = 0x001D ∧
    State.reset.reg (.glob .corbsize) = 0x72 ∧ State.reset.reg (.glob .rirbsize) = 0x72) ∧
  (∀ r : GReg, r ∉ [GReg.gcap, .vmaj, .outpay, .inpay, .corbsize, .rirbsize] → State.reset.reg (.glob r) = 0) ∧
  (∀ n : Stream, State.reset.reg (.str .ctl n) = 0x040000 ∧ State.reset.reg (.str .sts n) = 0x20 ∧
    State.reset.reg (.str .fifow n) = 0x0004 ∧
    State.reset.reg (.str .fifos n) = (if n.val < 4 then 0x0077 else 0x00BF) ∧
    ∀ k ∈ [SReg.lpib, .cbl, .lvi, .fmt, .bdpl, .bdpu], State.reset.reg (.str k n) = 0) ∧
  (∀ n : Stream, State.reset.dmaOf n =
    { running := false, inReset := false, curEntry := 0, curOff := 0, bdl := [], sched := [], schedIdx := 0,
      schedLoop := 0, pendingIrq := 0, tsLast := 0, tsNext := 0, ring := [], sinkOk := false, boundTag := 0 }) ∧
  (∀ i : Fin 256, State.reset.corbBuf[i] = 0 ∧ State.reset.rirbBuf[i] = 0) ∧
  State.reset.respPending = 0 ∧ State.reset.corbKick = false ∧ State.reset.irqLevel = false ∧
  State.reset.wcEpoch = State.reset.now ∧ State.reset.now = 0 ∧ State.reset.pending = [] ∧ State.reset.saved = none

/-! ### Reads (40_mmio_dispatch.md section 1) -/

/-- Every read returns: byte `j` of the result is the byte that the offset decodes to of the register's
value under its readable mask, and 0 where the offset is unmapped (R131 to R134). A read of the whole of
one register returns that value (R133, R141, R142). A read that covers a byte of WALCLK brings the wall
clock up to date; no other read changes anything but the value returned (R78). -/
def Obligations.ReadReturnsBytes : Prop :=
  ∀ (i : Instr) (off : Nat) (w : Width) (s : State), ReadsAt i off w →
    ∃ t, exec i s = .next t ∧
      t = { s with
            regs := if coversClock off w.bytes then (walclkEval s).regs else s.regs,
            out := { s.out with readData := t.out.readData } } ∧
      (∀ j < 4, byteLane t.out.readData j =
        if j < w.bytes then (match decodeByte (off + j) with | some (r, k) => byteLane (guestValue s r) k | none => 0)
        else 0) ∧
      ∀ u, i.form = .rd u 0 w → w.bytes = u.width → t.out.readData = guestValue s u.register

/-- WALCLK.EVAL holds the clock while no engine is armed; else it stores the time from the epoch to `t` at
24 MHz, modulo 2^32, where `t` is the least of `now` and the armed engines' last completed transfers
(60_exceptions.md R340). -/
def Obligations.WallClock : Prop :=
  ∀ s : State,
    ((∀ n, (s.dmaOf n).running = false) → walclkEval s = s) ∧
    ∀ t, (∃ n, (s.dmaOf n).running = true) →
      t ≤ s.now → (∀ n, (s.dmaOf n).running = true → t ≤ (s.dmaOf n).tsLast) →
      (t = s.now ∨ ∃ n, (s.dmaOf n).running = true ∧ t = (s.dmaOf n).tsLast) →
      walclkEval s = s.setReg (.glob .walclk)
        (BitVec.ofNat 32 ((if s.wcEpoch ≤ t then t - s.wcEpoch else 0) * 24000000 / s.cfg.timerHz))

/-- The aggregated status of R328: bit `n` is SIS of stream `n`, bit 30 is CIS, bit 31 is GIS, the bits between
are 0; it does not depend on INTCTL; and a read of INTSTS returns it. -/
def Obligations.InterruptStatus : Prop :=
  ∀ s : State,
    let sis := fun n : Stream => s.reg (.str .sts n) &&& s.reg (.str .ctl n) &&& 0x1C ≠ 0
    let cis := ((s.reg (.glob .rirbsts)).getLsbD 0 = true ∧ (s.reg (.glob .rirbctl)).getLsbD 0 = true) ∨
      s.reg (.glob .statests) &&& s.reg (.glob .wakeen) &&& 0x7FFF ≠ 0
    (∀ n : Stream, s.regs.intsts.getLsbD n.val = true ↔ sis n) ∧
    (∀ k, 8 ≤ k → k < 30 → s.regs.intsts.getLsbD k = false) ∧
    (s.regs.intsts.getLsbD 30 = true ↔ cis) ∧
    (s.regs.intsts.getLsbD 31 = true ↔ cis ∨ ∃ n, sis n) ∧
    (∀ v, (s.setReg (.glob .intctl) v).regs.intsts = s.regs.intsts) ∧
    ∃ t, exec (.rdINTSTS 0 .w4) s = .next t ∧ t.out.readData = s.regs.intsts

/-! ### The interrupt wire (60_exceptions.md R330, R331) -/

/-- The line formula of R330, with CIS and SIS of R328. -/
def Obligations.LineFormula : Prop :=
  ∀ s : State,
    let sis := fun n : Stream => s.reg (.str .sts n) &&& s.reg (.str .ctl n) &&& 0x1C ≠ 0
    let cis := ((s.reg (.glob .rirbsts)).getLsbD 0 = true ∧ (s.reg (.glob .rirbctl)).getLsbD 0 = true) ∨
      s.reg (.glob .statests) &&& s.reg (.glob .wakeen) &&& 0x7FFF ≠ 0
    s.regs.line = true ↔
      (s.reg (.glob .intctl)).getLsbD 31 = true ∧
        ((cis ∧ (s.reg (.glob .intctl)).getLsbD 30 = true) ∨ ∃ n : Stream, sis n ∧ (s.reg (.glob .intctl)).getLsbD n.val = true)

/-- What ends every write (R135, R143, R331; 20_memory.md R87): IRQ.EVAL sets the level to the line formula and
drives the wire once if the level changes; and, where the implementation runs a kicked drain inside the
write, the write then does what DRAIN does. -/
def Obligations.EndOfWrite : Prop :=
  ∀ u : State,
    irqEval u =
      { u with
        irqLevel := u.regs.line,
        out := { u.out with wire := if u.irqLevel = u.regs.line then u.out.wire else u.regs.line :: u.out.wire } } ∧
    ((u.corbKick = false ∨ u.cfg.inlineDrain = false) → endWrite u = irqEval u) ∧
    (u.corbKick = true → u.cfg.inlineDrain = true → exec .drain (irqEval u) = .next (endWrite u))

/-! ### Writes (40_mmio_dispatch.md section 2) -/

/-- Every read returns a value and every write completes; there is no bus error (R326). A write leaves the wire at
the line formula of the state it leaves (R135, R143, R331); it touches guest memory only through an inline drain, and
then only in the response ring (R77, R87); what RD and SINK returned and what the sinks rendered stays. -/
def Obligations.TransactionsComplete : Prop :=
  (∀ (i : Instr) (off : Nat) (w : Width) (s : State), ReadsAt i off w → ∃ t, exec i s = .next t) ∧
  ∀ (i : Instr) (off : Nat) (w : Width) (v : Word) (s : State), WritesAt i off w v →
    ∃ t, exec i s = .next t ∧ t.irqLevel = t.regs.line ∧
      (s.cfg.inlineDrain = false → t.mem = s.mem ∧
        t.out.wire = if s.irqLevel = t.irqLevel then s.out.wire else t.irqLevel :: s.out.wire) ∧
      (∀ a, ¬ inResponseRing t a → t.mem.byte a = s.mem.byte a) ∧
      t.out.readData = s.out.readData ∧ t.out.sinkMoved = s.out.sinkMoved ∧ t.out.rendered = s.out.rendered

/-- Unmapped bytes of a write are dropped, and counted once per transaction; a write to unmapped bytes alone
changes nothing else before its IRQ.EVAL (R134, R321 case 7). -/
def Obligations.UnmappedWrite : Prop :=
  ∀ (i : Instr) (off : Nat) (w : Width) (v : Word) (s : State), WritesAt i off w v →
    ((∀ j < w.bytes, decodeByte (off + j) = none) →
      exec i s = .next (endWrite { s with
        counts := { s.counts with
                    unmappedWrite := s.counts.unmappedWrite + 1,
                    errors := s.counts.errors.add .guestProtocolViolation } })) ∧
    ∀ t, exec i s = .next t →
      t.counts.unmappedWrite = s.counts.unmappedWrite + if ∃ j < w.bytes, decodeByte (off + j) = none then 1 else 0

/-- Bits written as 1 outside the writable mask of a register are counted once per piece (R135, R321 case 1). -/
def Obligations.ReservedBits : Prop :=
  ∀ (i : Instr) (u : Target) (lo : Fin 4) (w : Width) (v : Word) (s t : State),
    i.form = .wr u lo w v → lo.val + w.bytes ≤ u.width → (s.regs.crst = true ∨ u.register = .glob .gctl) →
    exec i s = .next t →
    t.counts.reservedBits = s.counts.reservedBits +
      if BitVec.ofNat 32 (v.toNat % 2 ^ (8 * w.bytes) * 2 ^ (8 * lo.val)) &&& ~~~u.register.wmask ≠ 0 then 1 else 0

/-- A write to a read-only register, at either of its offsets, changes only the diagnostic counters before
its IRQ.EVAL (R139, R151 to R155, R164, R165, R237, R241). -/
def Obligations.ReadOnlyWrite : Prop :=
  ∀ (i : Instr) (s : State) (r : Reg) (val : Word), RowWrite i s r val →
    (r ∈ [Reg.glob .gcap, .glob .vmin, .glob .vmaj, .glob .outpay, .glob .inpay, .glob .intsts, .glob .walclk] ∨
      ∃ n, r = .str .lpib n ∨ r = .str .fifos n) →
    ∃ c, exec i s = .next (endWrite { s with counts := c })

/-- A write to CORBLBASE, CORBUBASE, RIRBLBASE, RIRBUBASE or RINTCNT stores the writable bits and has no other
effect before its IRQ.EVAL (R137, R192, R210). -/
def Obligations.PlainWrite : Prop :=
  ∀ (i : Instr) (s : State) (r : Reg) (val : Word), RowWrite i s r val →
    r ∈ [Reg.glob .corblbase, .glob .corbubase, .glob .rirblbase, .glob .rirbubase, .glob .rintcnt] →
    ∃ c, exec i s =
      .next (endWrite ({ s with counts := c }.setReg r ((val &&& r.wmask) ||| (s.reg r &&& ~~~r.wmask))))

/-- Testable property 1: what a read returns after a write of the whole register, for the registers whose handlers
store under the mask: the ring bases and RINTCNT, WAKEEN and INTCTL, and a stream's guarded registers while its RUN
is 0 (R12, R137; 90_conflicts.md C2). -/
def Obligations.PlainRoundTrip : Prop :=
  ∀ (i k : Instr) (r : Reg) (w : Width) (v : Word) (s t u : State),
    (r ∈ [Reg.glob .corblbase, .glob .corbubase, .glob .rirblbase, .glob .rirbubase, .glob .rintcnt, .glob .wakeen,
        .glob .intctl] ∨
      ∃ n q, r = .str q n ∧ s.regs.run n = false ∧ q ∈ [SReg.cbl, .lvi, .fifow, .fmt, .bdpl, .bdpu]) →
    s.regs.crst = true → w.bytes = r.width → v.toNat < 2 ^ (8 * w.bytes) →
    i.form = .wr (.reg r) 0 w v → k.form = .rd (.reg r) 0 w → exec i s = .next t → exec k t = .next u →
    u.out.readData = ((v &&& r.wmask) ||| (s.reg r &&& ~~~r.wmask)) &&& r.rmask

/-- While the controller is held in reset a write that covers no byte of GCTL changes only the diagnostic
counters before its IRQ.EVAL; a write inside one register is counted once as blocked (R159, R327). -/
def Obligations.HeldInReset : Prop :=
  ∀ (i : Instr) (off : Nat) (w : Width) (v : Word) (s : State), WritesAt i off w v → s.regs.crst = false →
    ((∀ j < w.bytes, ∀ k, decodeByte (off + j) ≠ some (.glob .gctl, k)) →
      ∃ c, exec i s = .next (endWrite { s with counts := c })) ∧
    ∀ u lo, i.form = .wr u lo w v → lo.val + w.bytes ≤ u.width → u.register ≠ .glob .gctl →
      exec i s = .next (endWrite { s with
        counts := { s.counts with
                    blockedInReset := s.counts.blockedInReset + 1,
                    errors := s.counts.errors.add .guestProtocolViolation } })

/-! ### The global registers (41_global_registers.md) -/

/-- A write of GCTL that clears CRST resets the controller: every register and every hidden variable takes
its reset value, `Sink.stop` is called for every armed stream in ascending order, the wire falls; guest
memory, the time base and the epoch stay (R156, R158, R361). -/
def Obligations.EnterReset : Prop :=
  ∀ (i : Instr) (s : State) (val : Word), RowWrite i s (.glob .gctl) val → s.regs.crst = true →
    val.getLsbD 0 = false →
    ∃ t, exec i s = .next t ∧ (∀ r, t.reg r = r.resetVal) ∧ (∀ n, t.dmaOf n = Dma.reset) ∧
      t.corbBuf = Vector.replicate 256 0 ∧ t.rirbBuf = Vector.replicate 256 0 ∧ t.respPending = 0 ∧
      t.corbKick = false ∧ t.irqLevel = false ∧
      t = { s with
            regs := t.regs, dma := t.dma, corbBuf := t.corbBuf, rirbBuf := t.rirbBuf, respPending := 0,
            corbKick := false, irqLevel := false, counts := t.counts,
            out := { s.out with
                     wire := if s.irqLevel = true then false :: s.out.wire else s.out.wire,
                     sinkCalls := stopCalls s ++ s.out.sinkCalls } }

/-- The other writes of GCTL: setting CRST leaves reset, which reports the codecs in STATESTS and starts the
wall clock from 0; with CRST set already, FCNTRL and UNSOL are stored; with CRST clear and staying clear
nothing is stored (R156, R157). -/
def Obligations.LeaveReset : Prop :=
  ∀ (i : Instr) (s : State) (val : Word), RowWrite i s (.glob .gctl) val →
    (s.regs.crst = false → val.getLsbD 0 = true →
      ∃ c, exec i s = .next (endWrite
        ((({ s with counts := c, wcEpoch := s.now }.setReg (.glob .gctl) (val &&& 0x103)).setReg (.glob .statests)
          (s.reg (.glob .statests) ||| (s.cfg.codecMask &&& 0x7FFF).setWidth 32)).setReg (.glob .walclk) 0))) ∧
    (s.regs.crst = true → val.getLsbD 0 = true →
      ∃ c, exec i s = .next (endWrite ({ s with counts := c }.setReg (.glob .gctl) (val &&& 0x103)))) ∧
    (s.regs.crst = false → val.getLsbD 0 = false → ∃ c, exec i s = .next (endWrite { s with counts := c }))

/-- Writes of WAKEEN, INTCTL and RIRBCTL store their writable bits and have no other effect before their
IRQ.EVAL (R161, R162, R202). -/
def Obligations.EnableWrites : Prop :=
  ∀ (i : Instr) (s : State) (r : Reg) (val mask : Word), RowWrite i s r val →
    (r, mask) ∈ [(Reg.glob .wakeen, (0x7FFF : Word)), (.glob .intctl, 0xC00000FF), (.glob .rirbctl, 0x07)] →
    ∃ c, exec i s = .next (endWrite ({ s with counts := c }.setReg r (val &&& mask)))

/-- Write-1-to-clear of GSTS, CORBSTS, STATESTS and RIRBSTS (R140, R160, R203); and what a 1-byte write of
STATESTS does to the byte it does not cover: its set bits are cleared too (70_reset_and_hazards.md R371). -/
def Obligations.ClearingWrites : Prop :=
  (∀ (i : Instr) (s : State) (r : Reg) (val mask : Word), RowWrite i s r val →
    (r, mask) ∈ [(Reg.glob .gsts, (0x0002 : Word)), (.glob .corbsts, 0x01), (.glob .statests, 0x7FFF),
      (.glob .rirbsts, 0x05)] →
    ∃ c, exec i s = .next (endWrite ({ s with counts := c }.setReg r (s.reg r &&& ~~~(val &&& mask))))) ∧
  ∀ (s t : State) (v : Word), s.regs.crst = true → s.reg (.glob .statests) &&& ~~~0x7FFF = 0 →
    (exec (.wrSTATESTS 0 .w1 v) s = .next t → t.reg (.glob .statests) = s.reg (.glob .statests) &&& 0x00FF &&& ~~~v) ∧
    (exec (.wrSTATESTS 1 .w1 v) s = .next t →
      t.reg (.glob .statests) = s.reg (.glob .statests) &&& 0xFF00 &&& ~~~(v <<< 8))

/-! ### The ring registers (42_corb_rirb.md section 2) -/

/-- A write of CORBWP stores the pointer modulo the capacity, and kicks the engine if it is Running (R194). -/
def Obligations.CorbwpWrite : Prop :=
  ∀ (i : Instr) (s : State) (val : Word), RowWrite i s (.glob .corbwp) val →
    ∃ c, exec i s = .next (endWrite
      ({ s with counts := c, corbKick := s.corbKick || s.regs.corbRun }.setReg (.glob .corbwp)
        (BitVec.ofNat 32 ((val &&& 0xFF).toNat % s.regs.corbCap))))

/-- A write of CORBRP: the pointer reset request, ignored and counted while the engine is Running, else zeroing
mirror and pointer; and its acknowledgement, which kicks the engine if it is Running (R197). -/
def Obligations.CorbrpWrite : Prop :=
  ∀ (i : Instr) (s : State) (val : Word), RowWrite i s (.glob .corbrp) val →
    ∃ c, exec i s = .next (endWrite (
      if val.getLsbD 15 then
        if s.regs.corbRun then { s with counts := c }
        else { s with counts := c, corbBuf := Vector.replicate 256 0 }.setReg (.glob .corbrp) 0x8000
      else if s.regs.corbRst then
        { s with counts := c, corbKick := s.corbKick || s.regs.corbRun }.setReg (.glob .corbrp)
          (s.reg (.glob .corbrp) &&& 0x00FF)
      else { s with counts := c })) ∧
      c.ringResetIgnored = s.counts.ringResetIgnored + if val.getLsbD 15 && s.regs.corbRun then 1 else 0

/-- A write of CORBCTL stores CMEIE and RUN, and kicks the engine if RUN is 1 (R193). -/
def Obligations.CorbctlWrite : Prop :=
  ∀ (i : Instr) (s : State) (val : Word), RowWrite i s (.glob .corbctl) val →
    ∃ c, exec i s = .next (endWrite
      ({ s with counts := c, corbKick := s.corbKick || val.getLsbD 1 }.setReg (.glob .corbctl) (val &&& 0x03)))

/-- Writes of CORBSIZE and RIRBSIZE: ignored and counted while that ring's engine is active, ignored for the
reserved size, else stored with the ring's pointers reduced to the new capacity (R199, R201). -/
def Obligations.RingSizeWrites : Prop :=
  ∀ (i : Instr) (s : State) (val : Word),
    let cap := if val &&& 3 = 0 then 2 else if val &&& 3 = 1 then 16 else 256
    (RowWrite i s (.glob .corbsize) val →
      ∃ c, exec i s = .next (endWrite (
        if s.regs.corbRun || decide (val &&& 3 = 3) then { s with counts := c }
        else
          (({ s with counts := c }.setReg (.glob .corbsize) (0x70 ||| (val &&& 3))).setReg (.glob .corbwp)
            (BitVec.ofNat 32 (s.regs.corbWp % cap))).setReg (.glob .corbrp)
            ((s.reg (.glob .corbrp) &&& 0x8000) ||| BitVec.ofNat 32 (s.regs.corbRp % cap)))) ∧
        c.ringSizeIgnored = s.counts.ringSizeIgnored + if s.regs.corbRun then 1 else 0) ∧
    (RowWrite i s (.glob .rirbsize) val →
      ∃ c, exec i s = .next (endWrite (
        if s.regs.rirbDmaen || decide (val &&& 3 = 3) then { s with counts := c }
        else
          ({ s with counts := c }.setReg (.glob .rirbsize) (0x70 ||| (val &&& 3))).setReg (.glob .rirbwp)
            (BitVec.ofNat 32 (s.regs.rirbWp % cap)))) ∧
        c.ringSizeIgnored = s.counts.ringSizeIgnored + if s.regs.rirbDmaen then 1 else 0)

/-- A write of RIRBWP: the pointer reset request, ignored and counted while DMAEN is 1, else zeroing mirror,
pointer and pending count; without the request bit nothing happens (R200). -/
def Obligations.RirbwpWrite : Prop :=
  ∀ (i : Instr) (s : State) (val : Word), RowWrite i s (.glob .rirbwp) val →
    ∃ c, exec i s = .next (endWrite (
      if val.getLsbD 15 && !s.regs.rirbDmaen then
        { s with counts := c, rirbBuf := Vector.replicate 256 0, respPending := 0 }.setReg (.glob .rirbwp) 0
      else { s with counts := c })) ∧
      c.ringResetIgnored = s.counts.ringResetIgnored + if val.getLsbD 15 && s.regs.rirbDmaen then 1 else 0

/-! ### The stream registers (43_stream_registers.md, 44_stream_dma.md section 2) -/

/-- A write of SDCTL with SRST set enters Reset: the engine is disabled, the stream's registers and its engine
take their reset values, and SDCTL reads 0x040001; in Reset it changes nothing else. No other stream and no
global register changes (R231, R233, R286). -/
def Obligations.StreamReset : Prop :=
  ∀ (i : Instr) (s : State) (n : Stream) (val : Word), RowWrite i s (.str .ctl n) val → val.getLsbD 0 = true →
    (s.regs.srst n = false →
      ∃ u, exec i s = .next (endWrite u) ∧
        u = { s with
              regs := u.regs, dma := u.dma, counts := u.counts,
              out := { s.out with
                       sinkCalls := if (s.dmaOf n).running then .stop n :: s.out.sinkCalls else s.out.sinkCalls } } ∧
        (∀ r, u.reg r = if r = .str .ctl n then 0x040001 else if r.ofStream n then r.resetVal else s.reg r) ∧
        ∀ m, u.dmaOf m = if m = n then { Dma.reset with inReset := true } else s.dmaOf m) ∧
    (s.regs.srst n = true →
      ∃ c, exec i s = .next (endWrite
        (({ s with counts := c }.setReg (.str .ctl n) 0x040001).setDma n { s.dmaOf n with inReset := true })))

/-- A write of SDCTL with SRST clear that leaves RUN as it is stores its bits and leaves Reset; one that clears
RUN also disables the engine: the engine is no longer armed, its ring is emptied and counted if bytes were
left in it, `Sink.stop` is called, and no register but SDCTL changes (R232, R233, R283, R284). -/
def Obligations.StreamStop : Prop :=
  ∀ (i : Instr) (s : State) (n : Stream) (val : Word), RowWrite i s (.str .ctl n) val → val.getLsbD 0 = false →
    (val.getLsbD 1 = s.regs.run n →
      ∃ c, exec i s = .next (endWrite
        (({ s with counts := c }.setDma n { s.dmaOf n with inReset := false }).setReg (.str .ctl n) (val &&& 0xFF001F)))) ∧
    (val.getLsbD 1 = false → s.regs.run n = true →
      ∃ u, exec i s = .next (endWrite u) ∧
        u = { s with
              regs := s.regs.put (.str .ctl n) (val &&& 0xFF001F), dma := u.dma, counts := u.counts,
              out := { s.out with
                       sinkCalls := if (s.dmaOf n).running then .stop n :: s.out.sinkCalls else s.out.sinkCalls } } ∧
        (∀ m, u.dmaOf m =
          if m = n then
            if (s.dmaOf n).running then { s.dmaOf n with inReset := false, running := false, ring := [] }
            else { s.dmaOf n with inReset := false }
          else s.dmaOf m) ∧
        (u.streamCounts n).xrun =
          (s.streamCounts n).xrun + if (s.dmaOf n).running && decide ((s.dmaOf n).ring ≠ []) then 1 else 0)

/-- A write of SDCTL that sets RUN starts the stream: where the list can be fetched and the preconditions of R263
hold, the engine is armed at position 0 with the schedule of its list, LPIB is 0, and the sink has been
asked for the format and the start, in this order (R232, R233, R262, R263, R265, R305). -/
def Obligations.StreamStart : Prop :=
  ∀ (i : Instr) (s : State) (n : Stream) (val : Word) (bytes : List Byte) (bdl : List Bdle) (fmt : Fmt),
    RowWrite i s (.str .ctl n) val → val.getLsbD 0 = false → val.getLsbD 1 = true → s.regs.run n = false →
    s.mem.read (s.regs.bdlBase n) (16 * s.regs.entryCount n) = some bytes → ListRead s.regs n bytes bdl →
    StartOk s n bdl fmt →
    ∃ u, exec i s = .next (endWrite u) ∧
      u = { s with
            regs := u.regs, dma := u.dma, counts := u.counts,
            oracle := { s.oracle with sink := s.oracle.sink.drop 2, sinkSeq := s.oracle.sinkSeq + 2 },
            out := { s.out with
                     sinkCalls := .start n :: .setFormat n (fmt.base * fmt.mult / fmt.div) fmt.channels fmt.bits ::
                       s.out.sinkCalls } } ∧
      (∀ r, u.reg r = if r = .str .ctl n then val &&& 0xFF001F else if r = .str .lpib n then 0 else s.reg r) ∧
      ∀ m, u.dmaOf m =
        if m = n then
          { running := true, inReset := false, curEntry := 0, curOff := 0, bdl := bdl,
            sched := buildSchedule s.cfg bdl fmt, schedIdx := 0, schedLoop := 0, pendingIrq := 0, tsLast := s.now,
            tsNext := s.now + ticksAt (buildSchedule s.cfg bdl fmt) 0, ring := [],
            sinkOk := sinkAnswerAt s 0 && sinkAnswerAt s 1, boundTag := (val &&& 0xFF001F).extractLsb' 20 4 }
        else s.dmaOf m

/-- A start is refused where the list cannot be fetched, which sets DESE, and where a precondition of R263 fails:
RUN reads 1, LPIB is 0, the engine is not armed, and no sink is asked (R262, R263, R264, R383). -/
def Obligations.StartRefused : Prop :=
  ∀ (i : Instr) (s : State) (n : Stream) (val : Word),
    RowWrite i s (.str .ctl n) val → val.getLsbD 0 = false → val.getLsbD 1 = true → s.regs.run n = false →
    ∀ dese : Bool,
      (dese = true → s.mem.read (s.regs.bdlBase n) (16 * s.regs.entryCount n) = none) →
      (dese = false → ∃ bytes bdl, s.mem.read (s.regs.bdlBase n) (16 * s.regs.entryCount n) = some bytes ∧
        ListRead s.regs n bytes bdl ∧ ¬ ∃ fmt, StartOk s n bdl fmt) →
      ∃ u, exec i s = .next (endWrite u) ∧ u = { s with regs := u.regs, dma := u.dma, counts := u.counts } ∧
        (∀ r, u.reg r = if r = .str .ctl n then val &&& 0xFF001F else if r = .str .lpib n then 0
          else if r = .str .sts n ∧ dese = true then (s.reg r ||| 0x10) &&& r.fullMask else s.reg r) ∧
        (∀ m, m ≠ n → u.dmaOf m = s.dmaOf m) ∧
        (u.dmaOf n).running = false ∧ (u.dmaOf n).ring = [] ∧ (u.dmaOf n).inReset = false ∧
        (u.dmaOf n).curEntry = 0 ∧ (u.dmaOf n).curOff = 0 ∧ (u.dmaOf n).sched = [] ∧ (u.dmaOf n).pendingIrq = 0 ∧
        (u.streamCounts n).startRefused = (s.streamCounts n).startRefused + 1

/-- A write of SDSTS clears the written flags BCIS, FIFOE and DESE, and acknowledging BCIS empties the queue of
pending interrupts; nothing else changes before its IRQ.EVAL (R235, R336). -/
def Obligations.StatusWrite : Prop :=
  ∀ (i : Instr) (s : State) (n : Stream) (val : Word), RowWrite i s (.str .sts n) val →
    ∃ c, exec i s = .next (endWrite
      (({ s with counts := c }.setReg (.str .sts n) (s.reg (.str .sts n) &&& ~~~(val &&& 0x1C))).setDma n
        { s.dmaOf n with pendingIrq := if val.getLsbD 2 then 0 else (s.dmaOf n).pendingIrq }))

/-- A write of SDCBL, SDLVI, SDFIFOW, SDFMT, SDBDPL or SDBDPU is dropped and counted while RUN is 1, and is a
plain store otherwise (R236, R323). -/
def Obligations.GuardedWrite : Prop :=
  ∀ (i : Instr) (s : State) (n : Stream) (k : SReg) (val : Word), RowWrite i s (.str k n) val →
    k ∈ [SReg.cbl, .lvi, .fifow, .fmt, .bdpl, .bdpu] →
    ∃ c, exec i s = .next (endWrite (
      if s.regs.run n then { s with counts := c }
      else { s with counts := c }.setReg (.str k n)
        ((val &&& (Reg.str k n).wmask) ||| (s.reg (.str k n) &&& ~~~(Reg.str k n).wmask)))) ∧
      c.droppedWhileRunning = s.counts.droppedWhileRunning + if s.regs.run n then 1 else 0

/-- The six writes that span registers of R144, each handler on the state that the one before it left: (a) four bytes at
SDCTL reset, stop, start or leave the stream, and only then acknowledge SDSTS, so that a DESE which the start sets is
cleared again by the same write if it is written as 1; (b) four bytes at CORBCTL store RUN first, which decides
whether the size in them is taken; (c) four bytes at RIRBCTL likewise with DMAEN; (d) four bytes at CORBWP store the
pointer, then run CORBRP; (e) four bytes at RIRBWP run RIRBWP, then store RINTCNT; (f) four bytes at WAKEEN store
WAKEEN, then acknowledge STATESTS (R136, R144, R199, R201). -/
def Obligations.SpanningWrites : Prop :=
  ∀ (i : Instr) (s : State) (v : Word), s.regs.crst = true →
    (∀ n, i.form = .wr (.reg (.str .ctl n)) 0 .w4 v →
      let d := s.dmaOf n
      let ack := fun x : Word => x &&& ~~~((v >>> 24) &&& 0x1C)
      let queued := if v.getLsbD 26 then 0 else d.pendingIrq
      let stopped := if d.running then SinkCall.stop n :: s.out.sinkCalls else s.out.sinkCalls
      (v.getLsbD 0 = true → s.regs.srst n = false →
        ∃ u, exec i s = .next (endWrite u) ∧
          u = { s with
                regs := u.regs, dma := u.dma, counts := u.counts, out := { s.out with sinkCalls := stopped } } ∧
          (∀ r, u.reg r = if r = .str .ctl n then 0x040001 else if r.ofStream n then r.resetVal else s.reg r) ∧
          ∀ m, u.dmaOf m = if m = n then { Dma.reset with inReset := true } else s.dmaOf m) ∧
      (v.getLsbD 0 = true → s.regs.srst n = true →
        ∃ c, exec i s = .next (endWrite
          ((({ s with counts := c }.setReg (.str .ctl n) 0x040001).setReg (.str .sts n)
            (ack (s.reg (.str .sts n)))).setDma n { d with inReset := true, pendingIrq := queued }))) ∧
      (v.getLsbD 0 = false → v.getLsbD 1 = s.regs.run n →
        ∃ c, exec i s = .next (endWrite
          ((({ s with counts := c }.setReg (.str .ctl n) (v &&& 0xFF001F)).setReg (.str .sts n)
            (ack (s.reg (.str .sts n)))).setDma n { d with inReset := false, pendingIrq := queued }))) ∧
      (v.getLsbD 0 = false → v.getLsbD 1 = false → s.regs.run n = true →
        ∃ c, exec i s = .next (endWrite
          ((({ s with counts := c, out := { s.out with sinkCalls := stopped } }.setReg (.str .ctl n)
            (v &&& 0xFF001F)).setReg (.str .sts n) (ack (s.reg (.str .sts n)))).setDma n
            { d with
              inReset := false, running := false, ring := if d.running then [] else d.ring, pendingIrq := queued }))) ∧
      (v.getLsbD 0 = false → v.getLsbD 1 = true → s.regs.run n = false →
        (∀ bytes bdl fmt, s.mem.read (s.regs.bdlBase n) (16 * s.regs.entryCount n) = some bytes →
          ListRead s.regs n bytes bdl → StartOk s n bdl fmt →
          ∃ u, exec i s = .next (endWrite u) ∧
            u = { s with
                  regs := u.regs, dma := u.dma, counts := u.counts,
                  oracle := { s.oracle with sink := s.oracle.sink.drop 2, sinkSeq := s.oracle.sinkSeq + 2 },
                  out := { s.out with
                           sinkCalls := .start n ::
                             .setFormat n (fmt.base * fmt.mult / fmt.div) fmt.channels fmt.bits :: s.out.sinkCalls } } ∧
            (∀ r, u.reg r =
              if r = .str .ctl n then v &&& 0xFF001F else if r = .str .lpib n then 0
              else if r = .str .sts n then ack (s.reg r) &&& r.fullMask else s.reg r) ∧
            ∀ m, u.dmaOf m =
              if m = n then
                { running := true, inReset := false, curEntry := 0, curOff := 0, bdl := bdl,
                  sched := buildSchedule s.cfg bdl fmt, schedIdx := 0, schedLoop := 0, pendingIrq := 0, tsLast := s.now,
                  tsNext := s.now + ticksAt (buildSchedule s.cfg bdl fmt) 0, ring := [],
                  sinkOk := sinkAnswerAt s 0 && sinkAnswerAt s 1, boundTag := (v &&& 0xFF001F).extractLsb' 20 4 }
              else s.dmaOf m) ∧
        ∀ dese : Bool,
          (dese = true → s.mem.read (s.regs.bdlBase n) (16 * s.regs.entryCount n) = none) →
          (dese = false → ∃ bytes bdl, s.mem.read (s.regs.bdlBase n) (16 * s.regs.entryCount n) = some bytes ∧
            ListRead s.regs n bytes bdl ∧ ¬ ∃ fmt, StartOk s n bdl fmt) →
          ∃ u, exec i s = .next (endWrite u) ∧ u = { s with regs := u.regs, dma := u.dma, counts := u.counts } ∧
            (∀ r, u.reg r =
              if r = .str .ctl n then v &&& 0xFF001F else if r = .str .lpib n then 0
              else if r = .str .sts n then ack (if dese then s.reg r ||| 0x10 else s.reg r) &&& r.fullMask
              else s.reg r) ∧
            (∀ m, m ≠ n → u.dmaOf m = s.dmaOf m) ∧ (u.dmaOf n).running = false ∧ (u.dmaOf n).inReset = false ∧
            (u.dmaOf n).pendingIrq = 0)) ∧
    (i = .wrCORBCTL 0 .w4 v →
      let size := (v >>> 16) &&& 3
      let cap := if size = 0 then 2 else if size = 1 then 16 else 256
      ∃ c,
        let u := ({ s with counts := c, corbKick := s.corbKick || v.getLsbD 1 }.setReg (.glob .corbctl)
          (v &&& 0x03)).setReg (.glob .corbsts) (s.reg (.glob .corbsts) &&& ~~~((v >>> 8) &&& 0x01))
        exec i s = .next (endWrite (
          if v.getLsbD 1 || decide (size = 3) then u
          else
            ((u.setReg (.glob .corbsize) (0x70 ||| size)).setReg (.glob .corbwp)
              (BitVec.ofNat 32 (s.regs.corbWp % cap))).setReg (.glob .corbrp)
              ((s.reg (.glob .corbrp) &&& 0x8000) ||| BitVec.ofNat 32 (s.regs.corbRp % cap))))) ∧
    (i = .wrRIRBCTL 0 .w4 v →
      let size := (v >>> 16) &&& 3
      let cap := if size = 0 then 2 else if size = 1 then 16 else 256
      ∃ c,
        let u := ({ s with counts := c }.setReg (.glob .rirbctl) (v &&& 0x07)).setReg (.glob .rirbsts)
          (s.reg (.glob .rirbsts) &&& ~~~((v >>> 8) &&& 0x05))
        exec i s = .next (endWrite (
          if v.getLsbD 1 || decide (size = 3) then u
          else
            (u.setReg (.glob .rirbsize) (0x70 ||| size)).setReg (.glob .rirbwp)
              (BitVec.ofNat 32 (s.regs.rirbWp % cap))))) ∧
    (i = .wrCORBWP 0 .w4 v →
      ∃ c,
        let u := { s with counts := c, corbKick := s.corbKick || s.regs.corbRun }.setReg (.glob .corbwp)
          (BitVec.ofNat 32 ((v &&& 0xFF).toNat % s.regs.corbCap))
        exec i s = .next (endWrite (
          if v.getLsbD 31 then
            if s.regs.corbRun then u
            else { u with corbBuf := Vector.replicate 256 0 }.setReg (.glob .corbrp) 0x8000
          else if s.regs.corbRst then u.setReg (.glob .corbrp) (s.reg (.glob .corbrp) &&& 0x00FF)
          else u))) ∧
    (i = .wrRIRBWP 0 .w4 v →
      ∃ c,
        let u := { s with counts := c }
        exec i s = .next (endWrite (
          (if v.getLsbD 15 && !s.regs.rirbDmaen then
            { u with rirbBuf := Vector.replicate 256 0, respPending := 0 }.setReg (.glob .rirbwp) 0
          else u).setReg (.glob .rintcnt) (((v >>> 16) &&& 0x00FF) ||| (s.reg (.glob .rintcnt) &&& ~~~0x00FF))))) ∧
    (i = .wrWAKEEN 0 .w4 v →
      ∃ c, exec i s = .next (endWrite
        (({ s with counts := c }.setReg (.glob .wakeen) (v &&& 0x7FFF)).setReg (.glob .statests)
          (s.reg (.glob .statests) &&& ~~~((v >>> 16) &&& 0x7FFF)))))

/-- The registers restricted while running do not change over any operation but RESTORE that finds the stream
with RUN set and leaves it so (10_state.md R61 e). -/
def Obligations.RestrictedWhileRunning : Prop :=
  ∀ (i : Instr) (s t : State) (n : Stream) (k : SReg), i ≠ .restore → exec i s = .next t →
    s.regs.run n = true → t.regs.run n = true → k ∈ [SReg.cbl, .lvi, .fifow, .fmt, .bdpl, .bdpu] →
    t.reg (.str k n) = s.reg (.str k n)

/-! ### The ring engine (42_corb_rirb.md section 3) -/

/-- DRAIN is refused unless a kick is pending; a stopped engine, or one whose pointer reset is not acknowledged,
only takes the kick; otherwise the level follows the line formula. In every case DRAIN changes the two ring
pointers, RIRBSTS, the mirrors, the response count, the codec's answers taken, the response ring in guest
memory and the wire, and nothing else (R204, R211, R302). That an operation R302 a says never runs is refused by name
is the MODEL'S CHOICE (log entry 6). -/
def Obligations.DrainOutcome : Prop :=
  ∀ s : State,
    (s.corbKick = false → exec .drain s = .refused .drainNotEnabled) ∧
    (s.corbKick = true → s.regs.corbRun = false ∨ s.regs.corbRst = true →
      exec .drain s = .next { s with corbKick := false }) ∧
    (s.corbKick = true → s.regs.corbRun = true → s.regs.corbRst = false →
      ∃ t, exec .drain s = .next t ∧ t.corbKick = false ∧ t.irqLevel = t.regs.line ∧
        t = { s with
              regs := t.regs, corbBuf := t.corbBuf, rirbBuf := t.rirbBuf, respPending := t.respPending,
              corbKick := false, irqLevel := t.irqLevel, mem := t.mem,
              oracle := { s.oracle with codec := t.oracle.codec, codecSeq := t.oracle.codecSeq },
              out := { s.out with
                       wire := if s.irqLevel = t.irqLevel then s.out.wire else t.irqLevel :: s.out.wire } } ∧
        (∀ r, r ≠ .glob .corbrp → r ≠ .glob .rirbwp → r ≠ .glob .rirbsts → t.reg r = s.reg r) ∧
        ∀ a, ¬ inResponseRing s a → t.mem.byte a = s.mem.byte a)

/-- Testable property 2: a DRAIN that meets no suppressed response consumes every command between the pointers
and appends their responses in FIFO order; the response ring in guest memory then holds the mirror, and the
response interrupt is flagged if it is enabled (R191, R204, R206 to R208, R214). -/
def Obligations.DrainFifo : Prop :=
  ∀ s : State, s.corbKick = true → s.regs.corbRun = true → s.regs.corbRst = false → s.regs.pointersOk →
    (∀ k < outstanding s, suppressedAt s k = false) →
    ∃ t, exec .drain s = .next t ∧
      t.regs.corbRp = s.regs.corbWp ∧ t.regs.rirbWp = (s.regs.rirbWp + outstanding s) % s.regs.rirbCap ∧
      (∀ k < outstanding s, outstanding s ≤ k + s.regs.rirbCap →
        t.rirbBuf[(s.regs.rirbWp + 1 + k) % s.regs.rirbCap]? = some (responseAt s k)) ∧
      (∀ j, (∀ k < outstanding s, (s.regs.rirbWp + 1 + k) % s.regs.rirbCap ≠ j) → t.rirbBuf[j]? = s.rirbBuf[j]?) ∧
      t.respPending = 0 ∧
      t.oracle.codec = s.oracle.codec.drop (outstanding s) ∧ t.oracle.codecSeq = s.oracle.codecSeq + outstanding s ∧
      t.mem = (if outstanding s = 0 ∧ s.respPending = 0 then s.mem else flushedWith s t.rirbBuf) ∧
      t.reg (.glob .rirbsts) =
        (if s.regs.rintctl = true ∧ ¬ (outstanding s = 0 ∧ s.respPending = 0)
         then (s.reg (.glob .rirbsts) ||| 0x01) &&& (Reg.glob .rirbsts).fullMask else s.reg (.glob .rirbsts))

/-- A suppressed response ends the drain with its command looked up but not consumed: the pointers stand right
before it, and where the responses before it do not reach the threshold nothing is flushed (R205). -/
def Obligations.DrainSuppressed : Prop :=
  ∀ (s : State) (k : Nat), s.corbKick = true → s.regs.corbRun = true → s.regs.corbRst = false → s.regs.pointersOk →
    k < outstanding s → (∀ j < k, suppressedAt s j = false) → suppressedAt s k = true →
    ∃ t, exec .drain s = .next t ∧
      t.regs.corbRp = (s.regs.corbRp + k) % s.regs.corbCap ∧
      t.regs.rirbWp = (s.regs.rirbWp + k) % s.regs.rirbCap ∧
      t.oracle.codec = s.oracle.codec.drop (k + 1) ∧ t.oracle.codecSeq = s.oracle.codecSeq + k + 1 ∧
      (s.respPending + k < s.regs.threshold →
        t.respPending = s.respPending + k ∧ t.mem = s.mem ∧ t.reg (.glob .rirbsts) = s.reg (.glob .rirbsts))

/-- RIRB.FLUSH stores every entry of the response mirror, lowest index first, each as eight bytes with the least
significant first, and no other byte; where the ring cannot be written it stores nothing. In either case the pending
count is 0 and, if the response interrupt is enabled, RINTFL is set; nothing else changes. The words of DrainFifo for
the memory after a flush say the same (R72, R76, R207, R209). -/
def Obligations.ResponseRing : Prop :=
  ∀ s : State,
    let t := rirbFlush s
    (∀ a, ¬ inResponseRing s a → t.mem.byte a = s.mem.byte a) ∧
    (s.mem.read s.regs.rirbBase (8 * s.regs.rirbCap) = none → t.mem = s.mem) ∧
    (s.mem.read s.regs.rirbBase (8 * s.regs.rirbCap) ≠ none →
      ∀ i < s.regs.rirbCap, ∀ j < 8,
        t.mem.byte (s.regs.rirbBase + 8 * i + j) = some ((s.rirbBuf[i]?.getD 0).extractLsb' (8 * j) 8)) ∧
    t = { s with
          regs := if s.regs.rintctl then s.regs.put (.glob .rirbsts) (s.reg (.glob .rirbsts) ||| 0x01) else s.regs,
          mem := t.mem, respPending := 0 } ∧
    t.mem = flushedWith s s.rirbBuf

/-! ### The schedule (44_stream_dma.md section 3) -/

/-- Every code with `v[13:11] <= 3` and `v[6:4] <= 4` decodes, to the fields of R268, every other code is invalid;
the rate is their quotient; and the time that `b` bytes last is the quotient of R269, of which the divisor is at
least 44100 (R268, R269). -/
def Obligations.FormatCode : Prop :=
  (∀ v : Word,
    let multF := (v.extractLsb' 11 3).toNat
    let bitsF := (v.extractLsb' 4 3).toNat
    (3 < multF ∨ 4 < bitsF → decodeFmt v = none) ∧
    (multF ≤ 3 → bitsF ≤ 4 → ∃ f, decodeFmt v = some f ∧
      f.base = (if v.getLsbD 14 then 44100 else 48000) ∧ f.mult = multF + 1 ∧
      f.div = (v.extractLsb' 8 3).toNat + 1 ∧ [8, 16, 20, 24, 32][bitsF]? = some f.bits ∧
      f.channels = (v.extractLsb' 0 4).toNat + 1 ∧
      f.bytesPerSample = (if f.bits = 8 then 1 else if f.bits = 16 then 2 else 4) ∧
      f.rate = f.base * f.mult / f.div ∧
      44100 ≤ f.base * f.mult * f.channels * f.bytesPerSample)) ∧
  ∀ (cfg : Config) (f : Fmt),
    (∀ b, tickCount cfg b f = b * cfg.timerHz * f.div / (f.base * f.mult * f.channels * f.bytesPerSample)) ∧
    tickCount cfg 0 f = 0

/-- The groups of a list cut it, in order, at its entries with IOC and at its end, and each group gives one step
of the schedule: byte count times loop count is the group's size, and the duration is that of its byte count (R266, R267). -/
def Obligations.Grouping : Prop :=
  ∀ (cfg : Config) (bdl : List Bdle) (f : Fmt),
    (∀ k g, (groups bdl)[k]? = some g →
      1 ≤ g.count ∧ g.first + g.count ≤ bdl.length ∧
      g.bytes = (((bdl.drop g.first).take g.count).map fun e => e.len.toNat).sum ∧
      (∀ i e, g.first ≤ i → i + 1 < g.first + g.count → bdl[i]? = some e → e.ioc = false) ∧
      (g.first + g.count = bdl.length ∨ ∃ e, bdl[g.first + g.count - 1]? = some e ∧ e.ioc = true) ∧
      (k = 0 → g.first = 0) ∧
      (∀ g', (groups bdl)[k + 1]? = some g' → g'.first = g.first + g.count) ∧
      ((groups bdl)[k + 1]? = none → g.first + g.count = bdl.length)) ∧
    (bdl ≠ [] → 1 ≤ (groups bdl).length ∧ (groups bdl).length ≤ bdl.length) ∧
    (buildSchedule cfg bdl f).length = (groups bdl).length ∧
    ∀ (k : Nat) (g : Group) (st : Machine.Step), (groups bdl)[k]? = some g → (buildSchedule cfg bdl f)[k]? = some st →
      st.first = g.first ∧ st.count = g.count ∧ st.ticks = tickCount cfg st.bytes f ∧
      st.bytes * st.loops = g.bytes ∧ 1 ≤ st.loops ∧ (g.bytes = 0 → st.loops = 1) ∧
      (cfg.splits = [] → st.bytes = g.bytes ∧ st.loops = 1)

/-- Testable property 3, the schedule invariant of R270: over the schedule of a start that is accepted, the sum of
byte count times loop count is the sum of the groups' sizes, of the entries' lengths, and CBL; the entry counts
sum to the number of entries; the first step begins at entry 0 and every other one where the one before it ends. -/
def Obligations.ScheduleSum : Prop :=
  ∀ (s : State) (n : Stream) (bdl : List Bdle) (fmt : Fmt),
    bdl.length = s.regs.entryCount n → StartOk s n bdl fmt →
    let sched := buildSchedule s.cfg bdl fmt
    (sched.map fun st => st.bytes * st.loops).sum = ((groups bdl).map (·.bytes)).sum ∧
    ((groups bdl).map (·.bytes)).sum = (bdl.map fun e => e.len.toNat).sum ∧
    (bdl.map fun e => e.len.toNat).sum = s.regs.cbl n ∧
    (sched.map (·.count)).sum = s.regs.entryCount n ∧
    (∃ st, sched[0]? = some st ∧ st.first = 0) ∧
    ∀ k st st', sched[k]? = some st → sched[k + 1]? = some st' → st'.first = st.first + st.count

/-! ### The tick (44_stream_dma.md section 4) -/

/-- TICK is refused unless the stream's engine is armed and the tick is due. A due tick for which the consumer
side is not ready is skipped: only its counter and its timer change before its IRQ.EVAL (R271, R273, R302). That an
operation R302 a says never runs is refused by name is the MODEL'S CHOICE (log entry 6). -/
def Obligations.TickSkipped : Prop :=
  ∀ (s : State) (n : Stream),
    (¬ ((s.dmaOf n).running = true ∧ (s.dmaOf n).tsNext ≤ s.now) →
      exec (.tick (BitVec.ofNat 4 n.val)) s = .refused .tickNotEnabled) ∧
    ∀ st : Machine.Step, TickDue s n st → MustSkip s n st →
      exec (.tick (BitVec.ofNat 4 n.val)) s = .next (irqEval
        ((s.setStreamCounts n
          { s.streamCounts n with skippedIrqPending := (s.streamCounts n).skippedIrqPending + 1 }).setDma n
          { s.dmaOf n with tsNext := s.now + st.ticks }))

/-- A due tick that is not skipped, and whose guest bytes are all backed, moves one step's bytes: the list's next
bytes in its order go from guest memory to the ring (output) or from the ring to guest memory (input), zeros and
nothing with a sink that rejected; LPIB advances modulo CBL; an interrupt boundary sets BCIS and, with IOCE, queues an
interrupt; the schedule advances; the next tick is due one duration of the step that is current then; and the wire
follows the line formula. Nothing else changes (R272, R274, R275, R277 to R281). -/
def Obligations.TickMoves : Prop :=
  ∀ (s : State) (n : Stream) (st : Machine.Step), MemoryOk s → TickDue s n st → ¬ MustSkip s n st →
    (∀ a ∈ nextAddrs s n st.bytes, s.mem.byte a ≠ none) →
    let d := s.dmaOf n
    let last := decide (d.schedLoop + 1 = st.loops)
    let idx := if last then (d.schedIdx + 1) % d.sched.length else d.schedIdx
    let u := s.setReg (.str .lpib n) (BitVec.ofNat 32 (((s.reg (.str .lpib n)).toNat + st.bytes) % s.regs.cbl n))
    let v := if crossesBoundary s n st then u.setReg (.str .sts n) (s.reg (.str .sts n) ||| 0x04) else u
    ∃ e o,
      (last = true → e = (st.first + st.count) % s.regs.entryCount n ∧ o = 0) ∧
      (last = false → e < s.regs.entryCount n ∧ ∀ c, st.bytes + c ≤ s.regs.cbl n →
        nextAddrs s n (st.bytes + c) = nextAddrs s n st.bytes ++ (passAddrs d.bdl e o).take c) ∧
      exec (.tick (BitVec.ofNat 4 n.val)) s = .next (irqEval
        { v.setDma n
            { d with
              curEntry := e, curOff := o, schedIdx := idx, schedLoop := if last then 0 else d.schedLoop + 1,
              pendingIrq := if crossesBoundary s n st && s.regs.ioce n then d.pendingIrq + 1 else d.pendingIrq,
              ring :=
                if d.sinkOk then
                  (if isInput n then d.ring.drop st.bytes
                   else d.ring ++ (nextAddrs s n st.bytes).filterMap fun a => s.mem.byte a)
                else d.ring,
              tsLast := s.now, tsNext := s.now + ticksAt d.sched idx } with
          mem := if isInput n then storeAll s.mem (nextAddrs s n st.bytes) (stepSource s n st) else s.mem,
          counts := if isInput n || d.sinkOk then s.counts else (s.countFlowError n).counts })

/-- A due tick that is not skipped, and one of whose guest bytes is not backed, is aborted: DESE is set, the timer
re-armed, and nothing else changes before its IRQ.EVAL but the guest bytes that an input stream's accesses before the
one that failed have stored. The failing access itself stores nothing, and an access never crosses an entry of the
list (R276, R274, R76). -/
def Obligations.TickAborts : Prop :=
  ∀ (s : State) (n : Stream) (st : Machine.Step), MemoryOk s → TickDue s n st → ¬ MustSkip s n st →
    (∃ a ∈ nextAddrs s n st.bytes, s.mem.byte a = none) →
    exec (.tick (BitVec.ofNat 4 n.val)) s = .next (irqEval
      (({ s with
          mem := storeAll s.mem ((nextAddrs s n st.bytes).take (bytesLanded s n st.bytes)) (stepSource s n st),
          counts := { s.counts with errors := s.counts.errors.add .fatal } }.setReg (.str .sts n)
        (s.reg (.str .sts n) ||| 0x10)).setDma n { s.dmaOf n with tsNext := s.now + st.ticks }))

/-! ### Environment, sinks and hypervisor (45_host_ops.md, 70_reset_and_hazards.md) -/

/-- TIME advances the time base and changes nothing else where the time base stays below 2^64 (R300). The MODEL'S
CHOICE (log entries 6 and 10, from the treatment U25 of 93_implementation_defined.md): that TIME is refused as
`timeExhausted` where the time base would reach 2^64; R300 gives no refusal, it only assumes that no run gets there.
SAVE records the registers, the streams' positions, the rings' contents if they are saved, the epoch and the
level, and changes nothing else (R308). -/
def Obligations.TimeAndSave : Prop :=
  ∀ s : State,
    (∀ d, s.now + d.toNat < 2 ^ 64 → exec (.time d) s = .next { s with now := s.now + d.toNat }) ∧
    (∀ d, 2 ^ 64 ≤ s.now + d.toNat → exec (.time d) s = .refused .timeExhausted) ∧
    ∃ r, exec .save s = .next { s with saved := some r } ∧ r.regs = s.regs ∧ r.wcEpoch = s.wcEpoch ∧
      r.irqLevel = s.irqLevel ∧
      ∀ n, r.perStream.get n =
          { curEntry := (s.dmaOf n).curEntry, curOff := (s.dmaOf n).curOff, inReset := (s.dmaOf n).inReset,
            tsNext := (s.dmaOf n).tsNext } ∧
        r.ringContents.get n = if s.cfg.saveRing then some (s.dmaOf n).ring else none

/-- SINK moves bytes between the ring of an armed stream with an accepting sink and the sink: into an input stream's
ring the bytes its sink produces, as many as there is room for; out of an output stream's ring its oldest bytes; and
returns how many. It changes nothing else (R303, R304). -/
def Obligations.SinkMoves : Prop :=
  ∀ (s : State) (n : Stream) (k : Word),
    let d := s.dmaOf n
    let room := min k.toNat (s.cfg.ringBytes.get n - d.ring.length)
    let taken := min k.toNat d.ring.length
    ((d.running && d.sinkOk) = false →
      exec (.sink (BitVec.ofNat 4 n.val) k) s = .next { s with out := { s.out with sinkMoved := 0 } }) ∧
    (d.running = true → d.sinkOk = true → isInput n = true →
      ∃ bytes : List Byte, bytes.length = room ∧
        (∀ j < room, bytes[j]? =
          some ((s.oracle.capture[j]?).getD (Config.captureByte (s.oracle.captureSeq + j)))) ∧
        exec (.sink (BitVec.ofNat 4 n.val) k) s = .next
          ({ s with
             oracle := { s.oracle with
                         capture := s.oracle.capture.drop room, captureSeq := s.oracle.captureSeq + room },
             out := { s.out with sinkMoved := room } }.setDma n { d with ring := d.ring ++ bytes })) ∧
    (d.running = true → d.sinkOk = true → isInput n = false →
      exec (.sink (BitVec.ofNat 4 n.val) k) s = .next
        ({ s with
           out := { s.out with
                    sinkMoved := taken,
                    rendered := s.out.rendered.set n.val (s.out.rendered.get n ++ d.ring.take taken) n.isLt } }.setDma
          n { d with ring := d.ring.drop taken }))

/-- POWEROFF disables every stream: an armed engine is no longer armed, its ring is emptied and counted if bytes were
left in it, and its sink is stopped; nothing else changes, no register among it, and a second POWEROFF changes
nothing (R283, R312). -/
def Obligations.Poweroff : Prop :=
  ∀ s : State, ∃ t, exec .poweroff s = .next t ∧
    t = { s with
          dma := t.dma, counts := { s.counts with streams := t.counts.streams },
          out := { s.out with sinkCalls := stopCalls s ++ s.out.sinkCalls } } ∧
    (∀ n, t.dmaOf n =
      if (s.dmaOf n).running then { s.dmaOf n with running := false, ring := [] } else s.dmaOf n) ∧
    (∀ n, t.streamCounts n =
      { s.streamCounts n with
        xrun := (s.streamCounts n).xrun + if (s.dmaOf n).running && decide ((s.dmaOf n).ring ≠ []) then 1 else 0 }) ∧
    exec .poweroff t = .next t

/-- Testable property 8: SAVE records a snapshot, and RESTORE of it brings back every register, every stream's
position, reset flag and timer, the epoch and the level, whatever the state it is applied to; it is refused where
nothing was saved (log entry 6). The rest of the controller is as R309 says, and the outside sees at most the sinks'
calls and one edge of the wire (R308 to R310). -/
def Obligations.RestoreRoundTrip : Prop :=
  (∀ u : State, u.saved = none → exec .restore u = .refused .restoreWithoutSave) ∧
  (∀ s : State, exec .save s = .next { s with saved := some (snapshotOf s) }) ∧
  ∀ s u : State, u.saved = some (snapshotOf s) →
    ∃ t, exec .restore u = .next t ∧ (∀ r, t.reg r = s.reg r) ∧
      (∀ n, (t.dmaOf n).curEntry = (s.dmaOf n).curEntry ∧ (t.dmaOf n).curOff = (s.dmaOf n).curOff ∧
        (t.dmaOf n).inReset = (s.dmaOf n).inReset ∧ (t.dmaOf n).tsNext = (s.dmaOf n).tsNext) ∧
      t.corbBuf = Vector.replicate 256 0 ∧
      (∀ j : Fin 256, t.rirbBuf[j] =
        match u.mem.read s.regs.rirbBase (8 * s.regs.rirbCap) with
        | some bytes => if j.val < s.regs.rirbCap then le64 (slice bytes (8 * j.val) 8) else 0
        | none => 0) ∧
      t = { u with
            regs := s.regs, dma := t.dma, corbBuf := t.corbBuf, rirbBuf := t.rirbBuf, respPending := 0,
            corbKick := s.regs.crst && s.regs.corbRun, wcEpoch := s.wcEpoch, irqLevel := s.irqLevel,
            counts := t.counts, oracle := { u.oracle with sink := t.oracle.sink, sinkSeq := t.oracle.sinkSeq },
            out := { u.out with
                     sinkCalls := t.out.sinkCalls,
                     wire := if u.irqLevel = s.irqLevel then u.out.wire else s.irqLevel :: u.out.wire } }

/-- RESTORE of any record completes; and which streams it re-arms, and with what: a stream that was running out of
reset, whose list can be read from guest memory, meets the start preconditions and contains the saved position; every
other stream keeps only the saved position. A re-armed stream's sink accepted if it accepted both calls made for the
stream, which are the two that follow those of the lower streams re-armed (R305, R309, R311). -/
def Obligations.RestoreRearms : Prop :=
  ∀ (u : State) (r : Snapshot), u.saved = some r →
    ∃ t, exec .restore u = .next t ∧ t.regs = r.regs ∧ ∀ n : Stream,
      (¬ (r.regs.crst = true ∧ r.regs.srst n = false ∧ r.regs.run n = true) → t.dmaOf n = placedDma r n) ∧
      (r.regs.crst = true → r.regs.srst n = false → r.regs.run n = true →
        (u.mem.read (r.regs.bdlBase n) (16 * r.regs.entryCount n) = none →
          t.dmaOf n = { placedDma r n with boundTag := r.regs.tag n }) ∧
        ∀ bytes bdl, u.mem.read (r.regs.bdlBase n) (16 * r.regs.entryCount n) = some bytes →
          ListRead r.regs n bytes bdl →
          ((¬ SavedInside r n bdl ∨ ¬ ∃ fmt, StartOk { u with regs := r.regs } n bdl fmt) →
            t.dmaOf n = { placedDma r n with boundTag := r.regs.tag n, bdl := bdl }) ∧
          ∀ fmt, SavedInside r n bdl → StartOk { u with regs := r.regs } n bdl fmt →
            let ok := sinkAnswerAt u (2 * armedBelow t n) && sinkAnswerAt u (2 * armedBelow t n + 1)
            ∃ k st, (buildSchedule u.cfg bdl fmt)[k]? = some st ∧
              st.first ≤ (r.perStream.get n).curEntry ∧ (r.perStream.get n).curEntry < st.first + st.count ∧
              t.dmaOf n =
                { placedDma r n with
                  boundTag := r.regs.tag n, bdl := bdl, sched := buildSchedule u.cfg bdl fmt, schedIdx := k,
                  schedLoop :=
                    if st.bytes = 0 then 0
                    else min (((((bdl.drop st.first).take ((r.perStream.get n).curEntry - st.first)).map
                      fun e => e.len.toNat).sum + (r.perStream.get n).curOff) / st.bytes) (st.loops - 1),
                  sinkOk := ok,
                  ring :=
                    (match r.ringContents.get n with
                     | some b => if b.length ≤ u.cfg.ringBytes.get n && ok then b else []
                     | none => []),
                  tsLast := min u.now (r.perStream.get n).tsNext, running := true })

/-- PORESET gives every register and every hidden variable its reset value, puts the epoch at the present time, lowers
the wire, clears the counters and stops the sinks of armed streams; parameters, time base, guest memory and what
belongs to the outside stay (R360, R361, R362). -/
def Obligations.PowerOnReset : Prop :=
  ∀ s : State, exec .poreset s = .next
    { State.reset with
      cfg := s.cfg, wcEpoch := s.now, now := s.now, mem := s.mem, saved := s.saved, oracle := s.oracle,
      pending := s.pending,
      out := { s.out with
               wire := if s.irqLevel then false :: s.out.wire else s.out.wire,
               sinkCalls := stopCalls s ++ s.out.sinkCalls } }

/-! ### What every step keeps -/

/-- Guest memory keeps its canonical form over every step (R70, R75, R76). -/
def Obligations.MemoryInvariant : Prop := ∀ s t : State, MemoryOk s → step s = .next t → MemoryOk t

/-- The level of the interrupt wire is the line formula between any two operations, and the events on the wire alternate
(R331, R332). -/
def Obligations.WireInvariant : Prop :=
  ∀ s t : State, WireOk s → WireHistoryOk s → step s = .next t → WireOk t ∧ WireHistoryOk t

/-- Ring pointers stay below their capacity and the response count below its bound; constants, reserved bits and size
codes stay as the field tables say (R27 to R29, R33, R42, R47, R48, R50, R55, R61 d and i). -/
def Obligations.RegistersInvariant : Prop :=
  ∀ s t : State, RingsOk s → RegistersOk s → step s = .next t → RingsOk t ∧ RegistersOk t

/-- Every stream stays in order: an armed engine agrees with its registers, its schedule is that of its list, its position
lies inside; and in such states no step faults (R60, R61 b, c, f, g, h). -/
def Obligations.StreamsInvariant : Prop :=
  ∀ s : State, StreamsOk s → (∀ t, step s = .next t → StreamsOk t) ∧ ∀ f, step s ≠ .fault f

/-- While the controller is held in reset every register holds its reset value and no engine has an enabled step,
over every step (R363). -/
def Obligations.HeldInvariant : Prop := ∀ s t : State, HeldOk s → step s = .next t → HeldOk t

/-- The invariants hold right after reset (R65, R360, R362). -/
def Obligations.ResetInvariants : Prop :=
  MemoryOk State.reset ∧ WireOk State.reset ∧ WireHistoryOk State.reset ∧ RingsOk State.reset ∧
  RegistersOk State.reset ∧ StreamsOk State.reset ∧ HeldOk State.reset
end

