-- ==== Sys2Proof/Laws/State.lean ====
section
/-! SUPPORT. The small lemmas of the state updates: one per field and update, so that no proof unfolds a
record update. -/

namespace Sys2Proof.Machine

variable (s : State)

/-! ### setReg -/

@[simp] theorem State.setReg_cfg (r : Reg) (v : Word) : (s.setReg r v).cfg = s.cfg := rfl
@[simp] theorem State.setReg_dma (r : Reg) (v : Word) : (s.setReg r v).dma = s.dma := rfl
@[simp] theorem State.setReg_corbBuf (r : Reg) (v : Word) : (s.setReg r v).corbBuf = s.corbBuf := rfl
@[simp] theorem State.setReg_rirbBuf (r : Reg) (v : Word) : (s.setReg r v).rirbBuf = s.rirbBuf := rfl
@[simp] theorem State.setReg_respPending (r : Reg) (v : Word) : (s.setReg r v).respPending = s.respPending := rfl
@[simp] theorem State.setReg_corbKick (r : Reg) (v : Word) : (s.setReg r v).corbKick = s.corbKick := rfl
@[simp] theorem State.setReg_irqLevel (r : Reg) (v : Word) : (s.setReg r v).irqLevel = s.irqLevel := rfl
@[simp] theorem State.setReg_wcEpoch (r : Reg) (v : Word) : (s.setReg r v).wcEpoch = s.wcEpoch := rfl
@[simp] theorem State.setReg_now (r : Reg) (v : Word) : (s.setReg r v).now = s.now := rfl
@[simp] theorem State.setReg_counts (r : Reg) (v : Word) : (s.setReg r v).counts = s.counts := rfl
@[simp] theorem State.setReg_mem (r : Reg) (v : Word) : (s.setReg r v).mem = s.mem := rfl
@[simp] theorem State.setReg_saved (r : Reg) (v : Word) : (s.setReg r v).saved = s.saved := rfl
@[simp] theorem State.setReg_oracle (r : Reg) (v : Word) : (s.setReg r v).oracle = s.oracle := rfl
@[simp] theorem State.setReg_out (r : Reg) (v : Word) : (s.setReg r v).out = s.out := rfl
@[simp] theorem State.setReg_pending (r : Reg) (v : Word) : (s.setReg r v).pending = s.pending := rfl

/-! ### orReg -/

@[simp] theorem State.orReg_cfg (r : Reg) (v : Word) : (s.orReg r v).cfg = s.cfg := rfl
@[simp] theorem State.orReg_dma (r : Reg) (v : Word) : (s.orReg r v).dma = s.dma := rfl
@[simp] theorem State.orReg_corbBuf (r : Reg) (v : Word) : (s.orReg r v).corbBuf = s.corbBuf := rfl
@[simp] theorem State.orReg_rirbBuf (r : Reg) (v : Word) : (s.orReg r v).rirbBuf = s.rirbBuf := rfl
@[simp] theorem State.orReg_respPending (r : Reg) (v : Word) : (s.orReg r v).respPending = s.respPending := rfl
@[simp] theorem State.orReg_corbKick (r : Reg) (v : Word) : (s.orReg r v).corbKick = s.corbKick := rfl
@[simp] theorem State.orReg_irqLevel (r : Reg) (v : Word) : (s.orReg r v).irqLevel = s.irqLevel := rfl
@[simp] theorem State.orReg_wcEpoch (r : Reg) (v : Word) : (s.orReg r v).wcEpoch = s.wcEpoch := rfl
@[simp] theorem State.orReg_now (r : Reg) (v : Word) : (s.orReg r v).now = s.now := rfl
@[simp] theorem State.orReg_counts (r : Reg) (v : Word) : (s.orReg r v).counts = s.counts := rfl
@[simp] theorem State.orReg_mem (r : Reg) (v : Word) : (s.orReg r v).mem = s.mem := rfl
@[simp] theorem State.orReg_saved (r : Reg) (v : Word) : (s.orReg r v).saved = s.saved := rfl
@[simp] theorem State.orReg_oracle (r : Reg) (v : Word) : (s.orReg r v).oracle = s.oracle := rfl
@[simp] theorem State.orReg_out (r : Reg) (v : Word) : (s.orReg r v).out = s.out := rfl
@[simp] theorem State.orReg_pending (r : Reg) (v : Word) : (s.orReg r v).pending = s.pending := rfl

/-! ### setField -/

@[simp] theorem State.setField_cfg (r : Reg) (m v : Word) : (s.setField r m v).cfg = s.cfg := rfl
@[simp] theorem State.setField_dma (r : Reg) (m v : Word) : (s.setField r m v).dma = s.dma := rfl
@[simp] theorem State.setField_corbBuf (r : Reg) (m v : Word) : (s.setField r m v).corbBuf = s.corbBuf := rfl
@[simp] theorem State.setField_rirbBuf (r : Reg) (m v : Word) : (s.setField r m v).rirbBuf = s.rirbBuf := rfl
@[simp] theorem State.setField_respPending (r : Reg) (m v : Word) : (s.setField r m v).respPending = s.respPending := rfl
@[simp] theorem State.setField_corbKick (r : Reg) (m v : Word) : (s.setField r m v).corbKick = s.corbKick := rfl
@[simp] theorem State.setField_irqLevel (r : Reg) (m v : Word) : (s.setField r m v).irqLevel = s.irqLevel := rfl
@[simp] theorem State.setField_wcEpoch (r : Reg) (m v : Word) : (s.setField r m v).wcEpoch = s.wcEpoch := rfl
@[simp] theorem State.setField_now (r : Reg) (m v : Word) : (s.setField r m v).now = s.now := rfl
@[simp] theorem State.setField_counts (r : Reg) (m v : Word) : (s.setField r m v).counts = s.counts := rfl
@[simp] theorem State.setField_mem (r : Reg) (m v : Word) : (s.setField r m v).mem = s.mem := rfl
@[simp] theorem State.setField_saved (r : Reg) (m v : Word) : (s.setField r m v).saved = s.saved := rfl
@[simp] theorem State.setField_oracle (r : Reg) (m v : Word) : (s.setField r m v).oracle = s.oracle := rfl
@[simp] theorem State.setField_out (r : Reg) (m v : Word) : (s.setField r m v).out = s.out := rfl
@[simp] theorem State.setField_pending (r : Reg) (m v : Word) : (s.setField r m v).pending = s.pending := rfl

/-! ### setDma -/

@[simp] theorem State.setDma_cfg (n : Stream) (d : Dma) : (s.setDma n d).cfg = s.cfg := rfl
@[simp] theorem State.setDma_regs (n : Stream) (d : Dma) : (s.setDma n d).regs = s.regs := rfl
@[simp] theorem State.setDma_corbBuf (n : Stream) (d : Dma) : (s.setDma n d).corbBuf = s.corbBuf := rfl
@[simp] theorem State.setDma_rirbBuf (n : Stream) (d : Dma) : (s.setDma n d).rirbBuf = s.rirbBuf := rfl
@[simp] theorem State.setDma_respPending (n : Stream) (d : Dma) : (s.setDma n d).respPending = s.respPending := rfl
@[simp] theorem State.setDma_corbKick (n : Stream) (d : Dma) : (s.setDma n d).corbKick = s.corbKick := rfl
@[simp] theorem State.setDma_irqLevel (n : Stream) (d : Dma) : (s.setDma n d).irqLevel = s.irqLevel := rfl
@[simp] theorem State.setDma_wcEpoch (n : Stream) (d : Dma) : (s.setDma n d).wcEpoch = s.wcEpoch := rfl
@[simp] theorem State.setDma_now (n : Stream) (d : Dma) : (s.setDma n d).now = s.now := rfl
@[simp] theorem State.setDma_counts (n : Stream) (d : Dma) : (s.setDma n d).counts = s.counts := rfl
@[simp] theorem State.setDma_mem (n : Stream) (d : Dma) : (s.setDma n d).mem = s.mem := rfl
@[simp] theorem State.setDma_saved (n : Stream) (d : Dma) : (s.setDma n d).saved = s.saved := rfl
@[simp] theorem State.setDma_oracle (n : Stream) (d : Dma) : (s.setDma n d).oracle = s.oracle := rfl
@[simp] theorem State.setDma_out (n : Stream) (d : Dma) : (s.setDma n d).out = s.out := rfl
@[simp] theorem State.setDma_pending (n : Stream) (d : Dma) : (s.setDma n d).pending = s.pending := rfl

/-! ### countUnmappedWrite -/

@[simp] theorem State.countUnmappedWrite_cfg : (s.countUnmappedWrite).cfg = s.cfg := rfl
@[simp] theorem State.countUnmappedWrite_regs : (s.countUnmappedWrite).regs = s.regs := rfl
@[simp] theorem State.countUnmappedWrite_dma : (s.countUnmappedWrite).dma = s.dma := rfl
@[simp] theorem State.countUnmappedWrite_corbBuf : (s.countUnmappedWrite).corbBuf = s.corbBuf := rfl
@[simp] theorem State.countUnmappedWrite_rirbBuf : (s.countUnmappedWrite).rirbBuf = s.rirbBuf := rfl
@[simp] theorem State.countUnmappedWrite_respPending : (s.countUnmappedWrite).respPending = s.respPending := rfl
@[simp] theorem State.countUnmappedWrite_corbKick : (s.countUnmappedWrite).corbKick = s.corbKick := rfl
@[simp] theorem State.countUnmappedWrite_irqLevel : (s.countUnmappedWrite).irqLevel = s.irqLevel := rfl
@[simp] theorem State.countUnmappedWrite_wcEpoch : (s.countUnmappedWrite).wcEpoch = s.wcEpoch := rfl
@[simp] theorem State.countUnmappedWrite_now : (s.countUnmappedWrite).now = s.now := rfl
@[simp] theorem State.countUnmappedWrite_mem : (s.countUnmappedWrite).mem = s.mem := rfl
@[simp] theorem State.countUnmappedWrite_saved : (s.countUnmappedWrite).saved = s.saved := rfl
@[simp] theorem State.countUnmappedWrite_oracle : (s.countUnmappedWrite).oracle = s.oracle := rfl
@[simp] theorem State.countUnmappedWrite_out : (s.countUnmappedWrite).out = s.out := rfl
@[simp] theorem State.countUnmappedWrite_pending : (s.countUnmappedWrite).pending = s.pending := rfl

/-! ### countReservedBits -/

@[simp] theorem State.countReservedBits_cfg : (s.countReservedBits).cfg = s.cfg := rfl
@[simp] theorem State.countReservedBits_regs : (s.countReservedBits).regs = s.regs := rfl
@[simp] theorem State.countReservedBits_dma : (s.countReservedBits).dma = s.dma := rfl
@[simp] theorem State.countReservedBits_corbBuf : (s.countReservedBits).corbBuf = s.corbBuf := rfl
@[simp] theorem State.countReservedBits_rirbBuf : (s.countReservedBits).rirbBuf = s.rirbBuf := rfl
@[simp] theorem State.countReservedBits_respPending : (s.countReservedBits).respPending = s.respPending := rfl
@[simp] theorem State.countReservedBits_corbKick : (s.countReservedBits).corbKick = s.corbKick := rfl
@[simp] theorem State.countReservedBits_irqLevel : (s.countReservedBits).irqLevel = s.irqLevel := rfl
@[simp] theorem State.countReservedBits_wcEpoch : (s.countReservedBits).wcEpoch = s.wcEpoch := rfl
@[simp] theorem State.countReservedBits_now : (s.countReservedBits).now = s.now := rfl
@[simp] theorem State.countReservedBits_mem : (s.countReservedBits).mem = s.mem := rfl
@[simp] theorem State.countReservedBits_saved : (s.countReservedBits).saved = s.saved := rfl
@[simp] theorem State.countReservedBits_oracle : (s.countReservedBits).oracle = s.oracle := rfl
@[simp] theorem State.countReservedBits_out : (s.countReservedBits).out = s.out := rfl
@[simp] theorem State.countReservedBits_pending : (s.countReservedBits).pending = s.pending := rfl

/-! ### countDroppedWhileRunning -/

@[simp] theorem State.countDroppedWhileRunning_cfg : (s.countDroppedWhileRunning).cfg = s.cfg := rfl
@[simp] theorem State.countDroppedWhileRunning_regs : (s.countDroppedWhileRunning).regs = s.regs := rfl
@[simp] theorem State.countDroppedWhileRunning_dma : (s.countDroppedWhileRunning).dma = s.dma := rfl
@[simp] theorem State.countDroppedWhileRunning_corbBuf : (s.countDroppedWhileRunning).corbBuf = s.corbBuf := rfl
@[simp] theorem State.countDroppedWhileRunning_rirbBuf : (s.countDroppedWhileRunning).rirbBuf = s.rirbBuf := rfl
@[simp] theorem State.countDroppedWhileRunning_respPending : (s.countDroppedWhileRunning).respPending = s.respPending := rfl
@[simp] theorem State.countDroppedWhileRunning_corbKick : (s.countDroppedWhileRunning).corbKick = s.corbKick := rfl
@[simp] theorem State.countDroppedWhileRunning_irqLevel : (s.countDroppedWhileRunning).irqLevel = s.irqLevel := rfl
@[simp] theorem State.countDroppedWhileRunning_wcEpoch : (s.countDroppedWhileRunning).wcEpoch = s.wcEpoch := rfl
@[simp] theorem State.countDroppedWhileRunning_now : (s.countDroppedWhileRunning).now = s.now := rfl
@[simp] theorem State.countDroppedWhileRunning_mem : (s.countDroppedWhileRunning).mem = s.mem := rfl
@[simp] theorem State.countDroppedWhileRunning_saved : (s.countDroppedWhileRunning).saved = s.saved := rfl
@[simp] theorem State.countDroppedWhileRunning_oracle : (s.countDroppedWhileRunning).oracle = s.oracle := rfl
@[simp] theorem State.countDroppedWhileRunning_out : (s.countDroppedWhileRunning).out = s.out := rfl
@[simp] theorem State.countDroppedWhileRunning_pending : (s.countDroppedWhileRunning).pending = s.pending := rfl

/-! ### countRingSizeIgnored -/

@[simp] theorem State.countRingSizeIgnored_cfg : (s.countRingSizeIgnored).cfg = s.cfg := rfl
@[simp] theorem State.countRingSizeIgnored_regs : (s.countRingSizeIgnored).regs = s.regs := rfl
@[simp] theorem State.countRingSizeIgnored_dma : (s.countRingSizeIgnored).dma = s.dma := rfl
@[simp] theorem State.countRingSizeIgnored_corbBuf : (s.countRingSizeIgnored).corbBuf = s.corbBuf := rfl
@[simp] theorem State.countRingSizeIgnored_rirbBuf : (s.countRingSizeIgnored).rirbBuf = s.rirbBuf := rfl
@[simp] theorem State.countRingSizeIgnored_respPending : (s.countRingSizeIgnored).respPending = s.respPending := rfl
@[simp] theorem State.countRingSizeIgnored_corbKick : (s.countRingSizeIgnored).corbKick = s.corbKick := rfl
@[simp] theorem State.countRingSizeIgnored_irqLevel : (s.countRingSizeIgnored).irqLevel = s.irqLevel := rfl
@[simp] theorem State.countRingSizeIgnored_wcEpoch : (s.countRingSizeIgnored).wcEpoch = s.wcEpoch := rfl
@[simp] theorem State.countRingSizeIgnored_now : (s.countRingSizeIgnored).now = s.now := rfl
@[simp] theorem State.countRingSizeIgnored_mem : (s.countRingSizeIgnored).mem = s.mem := rfl
@[simp] theorem State.countRingSizeIgnored_saved : (s.countRingSizeIgnored).saved = s.saved := rfl
@[simp] theorem State.countRingSizeIgnored_oracle : (s.countRingSizeIgnored).oracle = s.oracle := rfl
@[simp] theorem State.countRingSizeIgnored_out : (s.countRingSizeIgnored).out = s.out := rfl
@[simp] theorem State.countRingSizeIgnored_pending : (s.countRingSizeIgnored).pending = s.pending := rfl

/-! ### countRingResetIgnored -/

@[simp] theorem State.countRingResetIgnored_cfg : (s.countRingResetIgnored).cfg = s.cfg := rfl
@[simp] theorem State.countRingResetIgnored_regs : (s.countRingResetIgnored).regs = s.regs := rfl
@[simp] theorem State.countRingResetIgnored_dma : (s.countRingResetIgnored).dma = s.dma := rfl
@[simp] theorem State.countRingResetIgnored_corbBuf : (s.countRingResetIgnored).corbBuf = s.corbBuf := rfl
@[simp] theorem State.countRingResetIgnored_rirbBuf : (s.countRingResetIgnored).rirbBuf = s.rirbBuf := rfl
@[simp] theorem State.countRingResetIgnored_respPending : (s.countRingResetIgnored).respPending = s.respPending := rfl
@[simp] theorem State.countRingResetIgnored_corbKick : (s.countRingResetIgnored).corbKick = s.corbKick := rfl
@[simp] theorem State.countRingResetIgnored_irqLevel : (s.countRingResetIgnored).irqLevel = s.irqLevel := rfl
@[simp] theorem State.countRingResetIgnored_wcEpoch : (s.countRingResetIgnored).wcEpoch = s.wcEpoch := rfl
@[simp] theorem State.countRingResetIgnored_now : (s.countRingResetIgnored).now = s.now := rfl
@[simp] theorem State.countRingResetIgnored_mem : (s.countRingResetIgnored).mem = s.mem := rfl
@[simp] theorem State.countRingResetIgnored_saved : (s.countRingResetIgnored).saved = s.saved := rfl
@[simp] theorem State.countRingResetIgnored_oracle : (s.countRingResetIgnored).oracle = s.oracle := rfl
@[simp] theorem State.countRingResetIgnored_out : (s.countRingResetIgnored).out = s.out := rfl
@[simp] theorem State.countRingResetIgnored_pending : (s.countRingResetIgnored).pending = s.pending := rfl

/-! ### countBlockedInReset -/

@[simp] theorem State.countBlockedInReset_cfg : (s.countBlockedInReset).cfg = s.cfg := rfl
@[simp] theorem State.countBlockedInReset_regs : (s.countBlockedInReset).regs = s.regs := rfl
@[simp] theorem State.countBlockedInReset_dma : (s.countBlockedInReset).dma = s.dma := rfl
@[simp] theorem State.countBlockedInReset_corbBuf : (s.countBlockedInReset).corbBuf = s.corbBuf := rfl
@[simp] theorem State.countBlockedInReset_rirbBuf : (s.countBlockedInReset).rirbBuf = s.rirbBuf := rfl
@[simp] theorem State.countBlockedInReset_respPending : (s.countBlockedInReset).respPending = s.respPending := rfl
@[simp] theorem State.countBlockedInReset_corbKick : (s.countBlockedInReset).corbKick = s.corbKick := rfl
@[simp] theorem State.countBlockedInReset_irqLevel : (s.countBlockedInReset).irqLevel = s.irqLevel := rfl
@[simp] theorem State.countBlockedInReset_wcEpoch : (s.countBlockedInReset).wcEpoch = s.wcEpoch := rfl
@[simp] theorem State.countBlockedInReset_now : (s.countBlockedInReset).now = s.now := rfl
@[simp] theorem State.countBlockedInReset_mem : (s.countBlockedInReset).mem = s.mem := rfl
@[simp] theorem State.countBlockedInReset_saved : (s.countBlockedInReset).saved = s.saved := rfl
@[simp] theorem State.countBlockedInReset_oracle : (s.countBlockedInReset).oracle = s.oracle := rfl
@[simp] theorem State.countBlockedInReset_out : (s.countBlockedInReset).out = s.out := rfl
@[simp] theorem State.countBlockedInReset_pending : (s.countBlockedInReset).pending = s.pending := rfl

/-! ### setStreamCounts -/

@[simp] theorem State.setStreamCounts_cfg (n : Stream) (c : StreamCounts) : (s.setStreamCounts n c).cfg = s.cfg := rfl
@[simp] theorem State.setStreamCounts_regs (n : Stream) (c : StreamCounts) : (s.setStreamCounts n c).regs = s.regs := rfl
@[simp] theorem State.setStreamCounts_dma (n : Stream) (c : StreamCounts) : (s.setStreamCounts n c).dma = s.dma := rfl
@[simp] theorem State.setStreamCounts_corbBuf (n : Stream) (c : StreamCounts) : (s.setStreamCounts n c).corbBuf = s.corbBuf := rfl
@[simp] theorem State.setStreamCounts_rirbBuf (n : Stream) (c : StreamCounts) : (s.setStreamCounts n c).rirbBuf = s.rirbBuf := rfl
@[simp] theorem State.setStreamCounts_respPending (n : Stream) (c : StreamCounts) : (s.setStreamCounts n c).respPending = s.respPending := rfl
@[simp] theorem State.setStreamCounts_corbKick (n : Stream) (c : StreamCounts) : (s.setStreamCounts n c).corbKick = s.corbKick := rfl
@[simp] theorem State.setStreamCounts_irqLevel (n : Stream) (c : StreamCounts) : (s.setStreamCounts n c).irqLevel = s.irqLevel := rfl
@[simp] theorem State.setStreamCounts_wcEpoch (n : Stream) (c : StreamCounts) : (s.setStreamCounts n c).wcEpoch = s.wcEpoch := rfl
@[simp] theorem State.setStreamCounts_now (n : Stream) (c : StreamCounts) : (s.setStreamCounts n c).now = s.now := rfl
@[simp] theorem State.setStreamCounts_mem (n : Stream) (c : StreamCounts) : (s.setStreamCounts n c).mem = s.mem := rfl
@[simp] theorem State.setStreamCounts_saved (n : Stream) (c : StreamCounts) : (s.setStreamCounts n c).saved = s.saved := rfl
@[simp] theorem State.setStreamCounts_oracle (n : Stream) (c : StreamCounts) : (s.setStreamCounts n c).oracle = s.oracle := rfl
@[simp] theorem State.setStreamCounts_out (n : Stream) (c : StreamCounts) : (s.setStreamCounts n c).out = s.out := rfl
@[simp] theorem State.setStreamCounts_pending (n : Stream) (c : StreamCounts) : (s.setStreamCounts n c).pending = s.pending := rfl

/-! ### countSkipped -/

@[simp] theorem State.countSkipped_cfg (n : Stream) : (s.countSkipped n).cfg = s.cfg := rfl
@[simp] theorem State.countSkipped_regs (n : Stream) : (s.countSkipped n).regs = s.regs := rfl
@[simp] theorem State.countSkipped_dma (n : Stream) : (s.countSkipped n).dma = s.dma := rfl
@[simp] theorem State.countSkipped_corbBuf (n : Stream) : (s.countSkipped n).corbBuf = s.corbBuf := rfl
@[simp] theorem State.countSkipped_rirbBuf (n : Stream) : (s.countSkipped n).rirbBuf = s.rirbBuf := rfl
@[simp] theorem State.countSkipped_respPending (n : Stream) : (s.countSkipped n).respPending = s.respPending := rfl
@[simp] theorem State.countSkipped_corbKick (n : Stream) : (s.countSkipped n).corbKick = s.corbKick := rfl
@[simp] theorem State.countSkipped_irqLevel (n : Stream) : (s.countSkipped n).irqLevel = s.irqLevel := rfl
@[simp] theorem State.countSkipped_wcEpoch (n : Stream) : (s.countSkipped n).wcEpoch = s.wcEpoch := rfl
@[simp] theorem State.countSkipped_now (n : Stream) : (s.countSkipped n).now = s.now := rfl
@[simp] theorem State.countSkipped_mem (n : Stream) : (s.countSkipped n).mem = s.mem := rfl
@[simp] theorem State.countSkipped_saved (n : Stream) : (s.countSkipped n).saved = s.saved := rfl
@[simp] theorem State.countSkipped_oracle (n : Stream) : (s.countSkipped n).oracle = s.oracle := rfl
@[simp] theorem State.countSkipped_out (n : Stream) : (s.countSkipped n).out = s.out := rfl
@[simp] theorem State.countSkipped_pending (n : Stream) : (s.countSkipped n).pending = s.pending := rfl

/-! ### countXrun -/

@[simp] theorem State.countXrun_cfg (n : Stream) : (s.countXrun n).cfg = s.cfg := rfl
@[simp] theorem State.countXrun_regs (n : Stream) : (s.countXrun n).regs = s.regs := rfl
@[simp] theorem State.countXrun_dma (n : Stream) : (s.countXrun n).dma = s.dma := rfl
@[simp] theorem State.countXrun_corbBuf (n : Stream) : (s.countXrun n).corbBuf = s.corbBuf := rfl
@[simp] theorem State.countXrun_rirbBuf (n : Stream) : (s.countXrun n).rirbBuf = s.rirbBuf := rfl
@[simp] theorem State.countXrun_respPending (n : Stream) : (s.countXrun n).respPending = s.respPending := rfl
@[simp] theorem State.countXrun_corbKick (n : Stream) : (s.countXrun n).corbKick = s.corbKick := rfl
@[simp] theorem State.countXrun_irqLevel (n : Stream) : (s.countXrun n).irqLevel = s.irqLevel := rfl
@[simp] theorem State.countXrun_wcEpoch (n : Stream) : (s.countXrun n).wcEpoch = s.wcEpoch := rfl
@[simp] theorem State.countXrun_now (n : Stream) : (s.countXrun n).now = s.now := rfl
@[simp] theorem State.countXrun_mem (n : Stream) : (s.countXrun n).mem = s.mem := rfl
@[simp] theorem State.countXrun_saved (n : Stream) : (s.countXrun n).saved = s.saved := rfl
@[simp] theorem State.countXrun_oracle (n : Stream) : (s.countXrun n).oracle = s.oracle := rfl
@[simp] theorem State.countXrun_out (n : Stream) : (s.countXrun n).out = s.out := rfl
@[simp] theorem State.countXrun_pending (n : Stream) : (s.countXrun n).pending = s.pending := rfl

/-! ### countFlowError -/

@[simp] theorem State.countFlowError_cfg (n : Stream) : (s.countFlowError n).cfg = s.cfg := rfl
@[simp] theorem State.countFlowError_regs (n : Stream) : (s.countFlowError n).regs = s.regs := rfl
@[simp] theorem State.countFlowError_dma (n : Stream) : (s.countFlowError n).dma = s.dma := rfl
@[simp] theorem State.countFlowError_corbBuf (n : Stream) : (s.countFlowError n).corbBuf = s.corbBuf := rfl
@[simp] theorem State.countFlowError_rirbBuf (n : Stream) : (s.countFlowError n).rirbBuf = s.rirbBuf := rfl
@[simp] theorem State.countFlowError_respPending (n : Stream) : (s.countFlowError n).respPending = s.respPending := rfl
@[simp] theorem State.countFlowError_corbKick (n : Stream) : (s.countFlowError n).corbKick = s.corbKick := rfl
@[simp] theorem State.countFlowError_irqLevel (n : Stream) : (s.countFlowError n).irqLevel = s.irqLevel := rfl
@[simp] theorem State.countFlowError_wcEpoch (n : Stream) : (s.countFlowError n).wcEpoch = s.wcEpoch := rfl
@[simp] theorem State.countFlowError_now (n : Stream) : (s.countFlowError n).now = s.now := rfl
@[simp] theorem State.countFlowError_mem (n : Stream) : (s.countFlowError n).mem = s.mem := rfl
@[simp] theorem State.countFlowError_saved (n : Stream) : (s.countFlowError n).saved = s.saved := rfl
@[simp] theorem State.countFlowError_oracle (n : Stream) : (s.countFlowError n).oracle = s.oracle := rfl
@[simp] theorem State.countFlowError_out (n : Stream) : (s.countFlowError n).out = s.out := rfl
@[simp] theorem State.countFlowError_pending (n : Stream) : (s.countFlowError n).pending = s.pending := rfl

/-! ### countStartRefused -/

@[simp] theorem State.countStartRefused_cfg (n : Stream) : (s.countStartRefused n).cfg = s.cfg := rfl
@[simp] theorem State.countStartRefused_regs (n : Stream) : (s.countStartRefused n).regs = s.regs := rfl
@[simp] theorem State.countStartRefused_dma (n : Stream) : (s.countStartRefused n).dma = s.dma := rfl
@[simp] theorem State.countStartRefused_corbBuf (n : Stream) : (s.countStartRefused n).corbBuf = s.corbBuf := rfl
@[simp] theorem State.countStartRefused_rirbBuf (n : Stream) : (s.countStartRefused n).rirbBuf = s.rirbBuf := rfl
@[simp] theorem State.countStartRefused_respPending (n : Stream) : (s.countStartRefused n).respPending = s.respPending := rfl
@[simp] theorem State.countStartRefused_corbKick (n : Stream) : (s.countStartRefused n).corbKick = s.corbKick := rfl
@[simp] theorem State.countStartRefused_irqLevel (n : Stream) : (s.countStartRefused n).irqLevel = s.irqLevel := rfl
@[simp] theorem State.countStartRefused_wcEpoch (n : Stream) : (s.countStartRefused n).wcEpoch = s.wcEpoch := rfl
@[simp] theorem State.countStartRefused_now (n : Stream) : (s.countStartRefused n).now = s.now := rfl
@[simp] theorem State.countStartRefused_mem (n : Stream) : (s.countStartRefused n).mem = s.mem := rfl
@[simp] theorem State.countStartRefused_saved (n : Stream) : (s.countStartRefused n).saved = s.saved := rfl
@[simp] theorem State.countStartRefused_oracle (n : Stream) : (s.countStartRefused n).oracle = s.oracle := rfl
@[simp] theorem State.countStartRefused_out (n : Stream) : (s.countStartRefused n).out = s.out := rfl
@[simp] theorem State.countStartRefused_pending (n : Stream) : (s.countStartRefused n).pending = s.pending := rfl

/-! ### raise -/

@[simp] theorem State.raise_cfg (c : ErrorClass) : (s.raise c).cfg = s.cfg := rfl
@[simp] theorem State.raise_regs (c : ErrorClass) : (s.raise c).regs = s.regs := rfl
@[simp] theorem State.raise_dma (c : ErrorClass) : (s.raise c).dma = s.dma := rfl
@[simp] theorem State.raise_corbBuf (c : ErrorClass) : (s.raise c).corbBuf = s.corbBuf := rfl
@[simp] theorem State.raise_rirbBuf (c : ErrorClass) : (s.raise c).rirbBuf = s.rirbBuf := rfl
@[simp] theorem State.raise_respPending (c : ErrorClass) : (s.raise c).respPending = s.respPending := rfl
@[simp] theorem State.raise_corbKick (c : ErrorClass) : (s.raise c).corbKick = s.corbKick := rfl
@[simp] theorem State.raise_irqLevel (c : ErrorClass) : (s.raise c).irqLevel = s.irqLevel := rfl
@[simp] theorem State.raise_wcEpoch (c : ErrorClass) : (s.raise c).wcEpoch = s.wcEpoch := rfl
@[simp] theorem State.raise_now (c : ErrorClass) : (s.raise c).now = s.now := rfl
@[simp] theorem State.raise_mem (c : ErrorClass) : (s.raise c).mem = s.mem := rfl
@[simp] theorem State.raise_saved (c : ErrorClass) : (s.raise c).saved = s.saved := rfl
@[simp] theorem State.raise_oracle (c : ErrorClass) : (s.raise c).oracle = s.oracle := rfl
@[simp] theorem State.raise_out (c : ErrorClass) : (s.raise c).out = s.out := rfl
@[simp] theorem State.raise_pending (c : ErrorClass) : (s.raise c).pending = s.pending := rfl

/-! ### recordCall -/

@[simp] theorem State.recordCall_cfg (c : SinkCall) : (s.recordCall c).cfg = s.cfg := rfl
@[simp] theorem State.recordCall_regs (c : SinkCall) : (s.recordCall c).regs = s.regs := rfl
@[simp] theorem State.recordCall_dma (c : SinkCall) : (s.recordCall c).dma = s.dma := rfl
@[simp] theorem State.recordCall_corbBuf (c : SinkCall) : (s.recordCall c).corbBuf = s.corbBuf := rfl
@[simp] theorem State.recordCall_rirbBuf (c : SinkCall) : (s.recordCall c).rirbBuf = s.rirbBuf := rfl
@[simp] theorem State.recordCall_respPending (c : SinkCall) : (s.recordCall c).respPending = s.respPending := rfl
@[simp] theorem State.recordCall_corbKick (c : SinkCall) : (s.recordCall c).corbKick = s.corbKick := rfl
@[simp] theorem State.recordCall_irqLevel (c : SinkCall) : (s.recordCall c).irqLevel = s.irqLevel := rfl
@[simp] theorem State.recordCall_wcEpoch (c : SinkCall) : (s.recordCall c).wcEpoch = s.wcEpoch := rfl
@[simp] theorem State.recordCall_now (c : SinkCall) : (s.recordCall c).now = s.now := rfl
@[simp] theorem State.recordCall_counts (c : SinkCall) : (s.recordCall c).counts = s.counts := rfl
@[simp] theorem State.recordCall_mem (c : SinkCall) : (s.recordCall c).mem = s.mem := rfl
@[simp] theorem State.recordCall_saved (c : SinkCall) : (s.recordCall c).saved = s.saved := rfl
@[simp] theorem State.recordCall_oracle (c : SinkCall) : (s.recordCall c).oracle = s.oracle := rfl
@[simp] theorem State.recordCall_pending (c : SinkCall) : (s.recordCall c).pending = s.pending := rfl

/-! ### The changed fields -/

@[simp] theorem State.setReg_regs (r : Reg) (v : Word) : (s.setReg r v).regs = s.regs.put r v := rfl
@[simp] theorem State.orReg_regs (r : Reg) (v : Word) :
    (s.orReg r v).regs = s.regs.put r (s.regs.rd r ||| v) := rfl
@[simp] theorem State.setField_regs (r : Reg) (m v : Word) :
    (s.setField r m v).regs = s.regs.put r ((s.regs.rd r &&& ~~~m) ||| (v &&& m)) := rfl
@[simp] theorem State.reg_eq (r : Reg) : s.reg r = s.regs.rd r := rfl
@[simp] theorem State.recordCall_out (c : SinkCall) :
    (s.recordCall c).out = { s.out with sinkCalls := c :: s.out.sinkCalls } := rfl

/-! ### driveWire -/

@[simp] theorem State.driveWire_cfg (b : Bool) : (s.driveWire b).cfg = s.cfg := by
  unfold State.driveWire; split <;> rfl
@[simp] theorem State.driveWire_regs (b : Bool) : (s.driveWire b).regs = s.regs := by
  unfold State.driveWire; split <;> rfl
@[simp] theorem State.driveWire_dma (b : Bool) : (s.driveWire b).dma = s.dma := by
  unfold State.driveWire; split <;> rfl
@[simp] theorem State.driveWire_corbBuf (b : Bool) : (s.driveWire b).corbBuf = s.corbBuf := by
  unfold State.driveWire; split <;> rfl
@[simp] theorem State.driveWire_rirbBuf (b : Bool) : (s.driveWire b).rirbBuf = s.rirbBuf := by
  unfold State.driveWire; split <;> rfl
@[simp] theorem State.driveWire_respPending (b : Bool) : (s.driveWire b).respPending = s.respPending := by
  unfold State.driveWire; split <;> rfl
@[simp] theorem State.driveWire_corbKick (b : Bool) : (s.driveWire b).corbKick = s.corbKick := by
  unfold State.driveWire; split <;> rfl
@[simp] theorem State.driveWire_wcEpoch (b : Bool) : (s.driveWire b).wcEpoch = s.wcEpoch := by
  unfold State.driveWire; split <;> rfl
@[simp] theorem State.driveWire_now (b : Bool) : (s.driveWire b).now = s.now := by
  unfold State.driveWire; split <;> rfl
@[simp] theorem State.driveWire_counts (b : Bool) : (s.driveWire b).counts = s.counts := by
  unfold State.driveWire; split <;> rfl
@[simp] theorem State.driveWire_mem (b : Bool) : (s.driveWire b).mem = s.mem := by
  unfold State.driveWire; split <;> rfl
@[simp] theorem State.driveWire_saved (b : Bool) : (s.driveWire b).saved = s.saved := by
  unfold State.driveWire; split <;> rfl
@[simp] theorem State.driveWire_oracle (b : Bool) : (s.driveWire b).oracle = s.oracle := by
  unfold State.driveWire; split <;> rfl
@[simp] theorem State.driveWire_pending (b : Bool) : (s.driveWire b).pending = s.pending := by
  unfold State.driveWire; split <;> rfl
@[simp] theorem State.driveWire_irqLevel (b : Bool) : (s.driveWire b).irqLevel = b := by
  unfold State.driveWire; split <;> simp_all
theorem State.driveWire_wire (b : Bool) :
    (s.driveWire b).out.wire = if s.irqLevel = b then s.out.wire else b :: s.out.wire := by
  unfold State.driveWire; split <;> rfl
theorem State.driveWire_out (b : Bool) :
    (s.driveWire b).out = { s.out with wire := if s.irqLevel = b then s.out.wire else b :: s.out.wire } := by
  unfold State.driveWire; split <;> rfl

/-! ### raiseTimes -/

@[simp] theorem State.raiseTimes_cfg (c : ErrorClass) (k : Nat) : (s.raiseTimes c k).cfg = s.cfg := by
  induction k generalizing s with
  | zero => rfl
  | succ k ih => exact ih (s.raise c)
@[simp] theorem State.raiseTimes_regs (c : ErrorClass) (k : Nat) : (s.raiseTimes c k).regs = s.regs := by
  induction k generalizing s with
  | zero => rfl
  | succ k ih => exact ih (s.raise c)
@[simp] theorem State.raiseTimes_dma (c : ErrorClass) (k : Nat) : (s.raiseTimes c k).dma = s.dma := by
  induction k generalizing s with
  | zero => rfl
  | succ k ih => exact ih (s.raise c)
@[simp] theorem State.raiseTimes_corbBuf (c : ErrorClass) (k : Nat) : (s.raiseTimes c k).corbBuf = s.corbBuf := by
  induction k generalizing s with
  | zero => rfl
  | succ k ih => exact ih (s.raise c)
@[simp] theorem State.raiseTimes_rirbBuf (c : ErrorClass) (k : Nat) : (s.raiseTimes c k).rirbBuf = s.rirbBuf := by
  induction k generalizing s with
  | zero => rfl
  | succ k ih => exact ih (s.raise c)
@[simp] theorem State.raiseTimes_respPending (c : ErrorClass) (k : Nat) : (s.raiseTimes c k).respPending = s.respPending := by
  induction k generalizing s with
  | zero => rfl
  | succ k ih => exact ih (s.raise c)
@[simp] theorem State.raiseTimes_corbKick (c : ErrorClass) (k : Nat) : (s.raiseTimes c k).corbKick = s.corbKick := by
  induction k generalizing s with
  | zero => rfl
  | succ k ih => exact ih (s.raise c)
@[simp] theorem State.raiseTimes_irqLevel (c : ErrorClass) (k : Nat) : (s.raiseTimes c k).irqLevel = s.irqLevel := by
  induction k generalizing s with
  | zero => rfl
  | succ k ih => exact ih (s.raise c)
@[simp] theorem State.raiseTimes_wcEpoch (c : ErrorClass) (k : Nat) : (s.raiseTimes c k).wcEpoch = s.wcEpoch := by
  induction k generalizing s with
  | zero => rfl
  | succ k ih => exact ih (s.raise c)
@[simp] theorem State.raiseTimes_now (c : ErrorClass) (k : Nat) : (s.raiseTimes c k).now = s.now := by
  induction k generalizing s with
  | zero => rfl
  | succ k ih => exact ih (s.raise c)
@[simp] theorem State.raiseTimes_mem (c : ErrorClass) (k : Nat) : (s.raiseTimes c k).mem = s.mem := by
  induction k generalizing s with
  | zero => rfl
  | succ k ih => exact ih (s.raise c)
@[simp] theorem State.raiseTimes_saved (c : ErrorClass) (k : Nat) : (s.raiseTimes c k).saved = s.saved := by
  induction k generalizing s with
  | zero => rfl
  | succ k ih => exact ih (s.raise c)
@[simp] theorem State.raiseTimes_oracle (c : ErrorClass) (k : Nat) : (s.raiseTimes c k).oracle = s.oracle := by
  induction k generalizing s with
  | zero => rfl
  | succ k ih => exact ih (s.raise c)
@[simp] theorem State.raiseTimes_out (c : ErrorClass) (k : Nat) : (s.raiseTimes c k).out = s.out := by
  induction k generalizing s with
  | zero => rfl
  | succ k ih => exact ih (s.raise c)
@[simp] theorem State.raiseTimes_pending (c : ErrorClass) (k : Nat) : (s.raiseTimes c k).pending = s.pending := by
  induction k generalizing s with
  | zero => rfl
  | succ k ih => exact ih (s.raise c)

/-! ### External agents -/

@[simp] theorem State.codecLookup_cfg (cmd : Word) : (s.codecLookup cmd).2.cfg = s.cfg := by
  unfold State.codecLookup; dsimp only; split <;> rfl
@[simp] theorem State.codecLookup_regs (cmd : Word) : (s.codecLookup cmd).2.regs = s.regs := by
  unfold State.codecLookup; dsimp only; split <;> rfl
@[simp] theorem State.codecLookup_dma (cmd : Word) : (s.codecLookup cmd).2.dma = s.dma := by
  unfold State.codecLookup; dsimp only; split <;> rfl
@[simp] theorem State.codecLookup_corbBuf (cmd : Word) : (s.codecLookup cmd).2.corbBuf = s.corbBuf := by
  unfold State.codecLookup; dsimp only; split <;> rfl
@[simp] theorem State.codecLookup_rirbBuf (cmd : Word) : (s.codecLookup cmd).2.rirbBuf = s.rirbBuf := by
  unfold State.codecLookup; dsimp only; split <;> rfl
@[simp] theorem State.codecLookup_respPending (cmd : Word) : (s.codecLookup cmd).2.respPending = s.respPending := by
  unfold State.codecLookup; dsimp only; split <;> rfl
@[simp] theorem State.codecLookup_corbKick (cmd : Word) : (s.codecLookup cmd).2.corbKick = s.corbKick := by
  unfold State.codecLookup; dsimp only; split <;> rfl
@[simp] theorem State.codecLookup_irqLevel (cmd : Word) : (s.codecLookup cmd).2.irqLevel = s.irqLevel := by
  unfold State.codecLookup; dsimp only; split <;> rfl
@[simp] theorem State.codecLookup_wcEpoch (cmd : Word) : (s.codecLookup cmd).2.wcEpoch = s.wcEpoch := by
  unfold State.codecLookup; dsimp only; split <;> rfl
@[simp] theorem State.codecLookup_now (cmd : Word) : (s.codecLookup cmd).2.now = s.now := by
  unfold State.codecLookup; dsimp only; split <;> rfl
@[simp] theorem State.codecLookup_counts (cmd : Word) : (s.codecLookup cmd).2.counts = s.counts := by
  unfold State.codecLookup; dsimp only; split <;> rfl
@[simp] theorem State.codecLookup_mem (cmd : Word) : (s.codecLookup cmd).2.mem = s.mem := by
  unfold State.codecLookup; dsimp only; split <;> rfl
@[simp] theorem State.codecLookup_saved (cmd : Word) : (s.codecLookup cmd).2.saved = s.saved := by
  unfold State.codecLookup; dsimp only; split <;> rfl
@[simp] theorem State.codecLookup_out (cmd : Word) : (s.codecLookup cmd).2.out = s.out := by
  unfold State.codecLookup; dsimp only; split <;> rfl
@[simp] theorem State.codecLookup_pending (cmd : Word) : (s.codecLookup cmd).2.pending = s.pending := by
  unfold State.codecLookup; dsimp only; split <;> rfl
@[simp] theorem State.sinkAsk_cfg (c : SinkCall) : (s.sinkAsk c).2.cfg = s.cfg := by
  unfold State.sinkAsk; dsimp only; split <;> rfl
@[simp] theorem State.sinkAsk_regs (c : SinkCall) : (s.sinkAsk c).2.regs = s.regs := by
  unfold State.sinkAsk; dsimp only; split <;> rfl
@[simp] theorem State.sinkAsk_dma (c : SinkCall) : (s.sinkAsk c).2.dma = s.dma := by
  unfold State.sinkAsk; dsimp only; split <;> rfl
@[simp] theorem State.sinkAsk_corbBuf (c : SinkCall) : (s.sinkAsk c).2.corbBuf = s.corbBuf := by
  unfold State.sinkAsk; dsimp only; split <;> rfl
@[simp] theorem State.sinkAsk_rirbBuf (c : SinkCall) : (s.sinkAsk c).2.rirbBuf = s.rirbBuf := by
  unfold State.sinkAsk; dsimp only; split <;> rfl
@[simp] theorem State.sinkAsk_respPending (c : SinkCall) : (s.sinkAsk c).2.respPending = s.respPending := by
  unfold State.sinkAsk; dsimp only; split <;> rfl
@[simp] theorem State.sinkAsk_corbKick (c : SinkCall) : (s.sinkAsk c).2.corbKick = s.corbKick := by
  unfold State.sinkAsk; dsimp only; split <;> rfl
@[simp] theorem State.sinkAsk_irqLevel (c : SinkCall) : (s.sinkAsk c).2.irqLevel = s.irqLevel := by
  unfold State.sinkAsk; dsimp only; split <;> rfl
@[simp] theorem State.sinkAsk_wcEpoch (c : SinkCall) : (s.sinkAsk c).2.wcEpoch = s.wcEpoch := by
  unfold State.sinkAsk; dsimp only; split <;> rfl
@[simp] theorem State.sinkAsk_now (c : SinkCall) : (s.sinkAsk c).2.now = s.now := by
  unfold State.sinkAsk; dsimp only; split <;> rfl
@[simp] theorem State.sinkAsk_counts (c : SinkCall) : (s.sinkAsk c).2.counts = s.counts := by
  unfold State.sinkAsk; dsimp only; split <;> rfl
@[simp] theorem State.sinkAsk_mem (c : SinkCall) : (s.sinkAsk c).2.mem = s.mem := by
  unfold State.sinkAsk; dsimp only; split <;> rfl
@[simp] theorem State.sinkAsk_saved (c : SinkCall) : (s.sinkAsk c).2.saved = s.saved := by
  unfold State.sinkAsk; dsimp only; split <;> rfl
@[simp] theorem State.sinkAsk_pending (c : SinkCall) : (s.sinkAsk c).2.pending = s.pending := by
  unfold State.sinkAsk; dsimp only; split <;> rfl
@[simp] theorem State.sinkAsk_out (c : SinkCall) :
    (s.sinkAsk c).2.out = { s.out with sinkCalls := c :: s.out.sinkCalls } := by
  unfold State.sinkAsk; dsimp only; split <;> rfl

/-! ### The sequence of operations -/

theorem State.takeWord_offerWord (x : Quad) : (s.offerWord x).takeWord = some (x, s) := rfl

end Sys2Proof.Machine
end

