-- ==== Sys2Proof/Laws/Memory.lean ====
section
/-! SUPPORT. The laws of guest memory (20_memory.md R75, R76): what a read gives, what a write stores and
leaves alone, that no operation backs or unbacks an address, and that the canonical form is kept. -/

namespace Sys2Proof.Machine

/-- `MemRead` (R75): nothing to read never fails, a range past 2^64 fails, else all its bytes or `fail`. -/
theorem Memory.read_eq (m : Memory) (a n : Nat) :
    m.read a n = if n = 0 then some [] else if 2 ^ 64 < a + n then none else m.readRun a n := by
  cases m with
  | nil =>
    cases n with
    | zero => rfl
    | succ n => simp [Memory.read, Memory.readRun, Memory.byte]
  | cons c rest => rfl

/-! ### The backed addresses -/

/-- The backed addresses of a memory, in order. -/
def Memory.addrs (m : Memory) : List Nat := m.map Prod.fst

theorem Memory.addrs_poke (m : Memory) (a : Nat) (b : Byte) : (m.poke a b).addrs = m.addrs := by
  unfold Memory.addrs Memory.poke
  rw [List.map_map]
  apply List.map_congr_left
  intro c _
  by_cases h : c.1 = a <;> simp [h]

theorem Memory.addrs_writeRun (bs : List Byte) : ∀ (m : Memory) (a : Nat), (m.writeRun a bs).addrs = m.addrs := by
  induction bs with
  | nil => intro m a; rfl
  | cons b rest ih => intro m a; rw [Memory.writeRun, ih, Memory.addrs_poke]

/-- A successful write stores bytes and changes no backed address (R76). -/
theorem Memory.write_eq_some {m m' : Memory} {a : Nat} {bs : List Byte} (h : m.write a bs = some m') :
    m' = m.writeRun a bs ∧ ∃ x, m.read a bs.length = some x := by
  unfold Memory.write at h
  split at h
  · cases h
  · next x hx => exact ⟨(Option.some.inj h).symm, x, hx⟩

theorem Memory.addrs_write {m m' : Memory} {a : Nat} {bs : List Byte} (h : m.write a bs = some m') :
    m'.addrs = m.addrs := by
  rw [(Memory.write_eq_some h).1, Memory.addrs_writeRun]

/-! ### The canonical form -/

theorem ascending_iff (l : List Host.Cell) : ascending l = true ↔ (l.map Prod.fst).Pairwise (· < ·) := by
  induction l with
  | nil => simp [ascending]
  | cons a rest ih =>
    cases rest with
    | nil => simp [ascending]
    | cons b rest =>
      have ht : ascending (a :: b :: rest) = (decide (a.1 < b.1) && ascending (b :: rest)) := rfl
      rw [ht, Bool.and_eq_true, decide_eq_true_iff, ih, List.map_cons, List.map_cons, List.map_cons,
        List.pairwise_cons (a := a.1)]
      constructor
      · rintro ⟨hab, hp⟩
        refine ⟨?_, hp⟩
        intro x hx
        rcases List.mem_cons.mp hx with rfl | hx
        · exact hab
        · exact Nat.lt_trans hab ((List.pairwise_cons.mp hp).1 x hx)
      · rintro ⟨h1, h2⟩
        exact ⟨h1 _ (List.mem_cons_self ..), h2⟩

theorem Memory.wf_iff (m : Memory) : m.wf = true ↔ m.addrs.Pairwise (· < ·) ∧ ∀ a ∈ m.addrs, a < 2 ^ 64 := by
  unfold Memory.wf Memory.addrs
  rw [Bool.and_eq_true, ascending_iff]
  simp [List.all_eq_true]

/-- The canonical form is a property of the backed addresses alone. -/
theorem Memory.wf_congr {m m' : Memory} (h : m'.addrs = m.addrs) : m'.wf = m.wf := by
  rw [Bool.eq_iff_iff, Memory.wf_iff, Memory.wf_iff, h]

theorem Memory.wf_poke (m : Memory) (a : Nat) (b : Byte) : (m.poke a b).wf = m.wf :=
  Memory.wf_congr (m.addrs_poke a b)

theorem Memory.wf_writeRun (m : Memory) (a : Nat) (bs : List Byte) : (m.writeRun a bs).wf = m.wf :=
  Memory.wf_congr (Memory.addrs_writeRun bs m a)

theorem Memory.wf_write {m m' : Memory} {a : Nat} {bs : List Byte} (h : m.write a bs = some m') : m'.wf = m.wf :=
  Memory.wf_congr (Memory.addrs_write h)

/-! ### Single bytes -/

theorem Memory.byte_eq_none_iff (m : Memory) (a : Nat) : m.byte a = none ↔ a ∉ m.addrs := by
  induction m with
  | nil => simp [Memory.byte, Memory.addrs]
  | cons c rest ih =>
    by_cases h : c.1 = a
    · simp [Memory.byte, Memory.addrs, h]
    · have h' : ¬ a = c.1 := fun e => h e.symm
      simpa [Memory.byte, Memory.addrs, h, h'] using ih

/-- An address is backed exactly if it is listed. -/
theorem Memory.byte_isSome_iff (m : Memory) (a : Nat) : (m.byte a).isSome = true ↔ a ∈ m.addrs := by
  rw [← not_iff_not, ← Memory.byte_eq_none_iff]
  cases m.byte a <;> simp

/-- The same addresses are backed in memories with the same addresses. -/
theorem Memory.isSome_congr {m m' : Memory} (h : m'.addrs = m.addrs) (a : Nat) :
    (m'.byte a).isSome = (m.byte a).isSome := by
  rw [Bool.eq_iff_iff, Memory.byte_isSome_iff, Memory.byte_isSome_iff, h]

/-- A stored byte is read back where the address is backed; every other address reads as before. -/
theorem Memory.byte_poke (m : Memory) (a : Nat) (b : Byte) (x : Nat) :
    (m.poke a b).byte x = if x = a then (m.byte a).map (fun _ => b) else m.byte x := by
  induction m with
  | nil => simp [Memory.poke, Memory.byte]
  | cons c rest ih =>
    unfold Memory.poke at ih ⊢
    rw [List.map_cons]
    by_cases hc : c.1 = a
    · by_cases hx : x = a
      · simp [Memory.byte, hc, hx]
      · have hax : ¬ a = x := fun e => hx e.symm
        simp only [hc, if_true, Memory.byte, hax, if_false, ih, hx]
    · by_cases hx : x = a
      · subst hx; rw [if_pos rfl] at ih ⊢; simp only [hc, if_false, Memory.byte, ih]
      · simp only [hc, if_false, Memory.byte, ih, hx]

theorem Memory.byte_writeRun_outside (bs : List Byte) : ∀ (m : Memory) (a x : Nat),
    (x < a ∨ a + bs.length ≤ x) → (m.writeRun a bs).byte x = m.byte x := by
  induction bs with
  | nil => intro m a x _; rfl
  | cons b rest ih =>
    intro m a x h
    rw [Memory.writeRun, ih _ _ _ (by simp only [List.length_cons] at h; omega), Memory.byte_poke,
      if_neg (by simp only [List.length_cons] at h; omega)]

theorem Memory.byte_writeRun_inside (bs : List Byte) : ∀ (m : Memory) (a i : Nat) (b : Byte),
    bs[i]? = some b → (m.byte (a + i)).isSome = true → (m.writeRun a bs).byte (a + i) = some b := by
  induction bs with
  | nil => intro m a i b h _; cases h
  | cons c rest ih =>
    intro m a i b h hs
    cases i with
    | zero =>
      have hb : c = b := by simpa using h
      rw [Memory.writeRun, Memory.byte_writeRun_outside _ _ _ _ (by omega), Nat.add_zero, Memory.byte_poke,
        if_pos rfl, hb]
      rw [Nat.add_zero] at hs
      obtain ⟨y, hy⟩ := Option.isSome_iff_exists.mp hs
      rw [hy]; rfl
    | succ k =>
      have hk : rest[k]? = some b := by simpa using h
      have e : a + (k + 1) = a + 1 + k := by omega
      rw [e] at hs ⊢
      rw [Memory.writeRun]
      exact ih _ _ _ _ hk (by rw [Memory.isSome_congr (Memory.addrs_poke ..)]; exact hs)

/-! ### Runs of bytes -/

/-- What a run of bytes reads as: it succeeds exactly if every byte is backed. -/
theorem Memory.readRun_eq_some_iff (m : Memory) : ∀ (n a : Nat) (bs : List Byte),
    m.readRun a n = some bs ↔ bs.length = n ∧ ∀ i < n, m.byte (a + i) = bs[i]? := by
  intro n
  induction n with
  | zero => intro a bs; cases bs <;> simp [Memory.readRun]
  | succ n ih =>
    intro a bs
    rw [Memory.readRun]
    constructor
    · intro h
      split at h
      · next b rest hb hr =>
        obtain ⟨hl, hi⟩ := (ih (a + 1) rest).mp hr
        have hbs := Option.some.inj h
        subst hbs
        refine ⟨by simp [hl], ?_⟩
        intro i hlt
        cases i with
        | zero => simpa using hb
        | succ k =>
          have := hi k (by omega)
          rw [show a + (k + 1) = a + 1 + k by omega, this]; simp
      · cases h
    · rintro ⟨hl, hi⟩
      match bs, hl with
      | b :: rest, hl =>
        have h0 : m.byte a = some b := by simpa using hi 0 (by omega)
        have hr : m.readRun (a + 1) n = some rest := by
          rw [ih]
          refine ⟨by simpa using hl, ?_⟩
          intro i hlt
          have := hi (i + 1) (by omega)
          rw [show a + 1 + i = a + (i + 1) by omega, this]; simp
        rw [h0, hr]

theorem Memory.readRun_isSome_iff (m : Memory) : ∀ (n a : Nat),
    (m.readRun a n).isSome = true ↔ ∀ i < n, (m.byte (a + i)).isSome = true := by
  intro n
  induction n with
  | zero => intro a; simp [Memory.readRun]
  | succ n ih =>
    intro a
    rw [Memory.readRun]
    constructor
    · intro h i hi
      split at h
      · next b rest hb hr =>
        cases i with
        | zero => rw [Nat.add_zero, hb]; rfl
        | succ k =>
          rw [show a + (k + 1) = a + 1 + k by omega]
          exact (ih (a + 1)).mp (by rw [hr]; rfl) k (by omega)
      · cases h
    · intro h
      obtain ⟨b, hb⟩ := Option.isSome_iff_exists.mp (by simpa using h 0 (by omega))
      obtain ⟨r, hr⟩ := Option.isSome_iff_exists.mp ((ih (a + 1)).mpr fun i hi => by
        have := h (i + 1) (by omega)
        rwa [show a + (i + 1) = a + 1 + i by omega] at this)
      rw [hb, hr]; rfl

/-- `MemRead` succeeds exactly on ranges that do not pass 2^64 and are backed throughout (R75). -/
theorem Memory.read_isSome_iff (m : Memory) (a n : Nat) :
    (m.read a n).isSome = true ↔ n = 0 ∨ (a + n ≤ 2 ^ 64 ∧ ∀ i < n, (m.byte (a + i)).isSome = true) := by
  rw [Memory.read_eq]
  by_cases hn : n = 0
  · simp [hn]
  · rw [if_neg hn]
    by_cases h : 2 ^ 64 < a + n
    · rw [if_pos h]
      constructor
      · intro e; cases e
      · rintro (e | ⟨e, _⟩)
        · exact absurd e hn
        · omega
    · rw [if_neg h, Memory.readRun_isSome_iff]
      constructor
      · intro e; exact Or.inr ⟨by omega, e⟩
      · rintro (e | ⟨_, e⟩)
        · exact absurd e hn
        · exact e

/-- What `MemRead` answers when it succeeds (R75). -/
theorem Memory.read_eq_some {m : Memory} {a n : Nat} {bs : List Byte} (h : m.read a n = some bs) :
    bs.length = n ∧ ∀ i < n, m.byte (a + i) = bs[i]? := by
  rw [Memory.read_eq] at h
  split at h
  · next hn => cases h; subst hn; simp
  · split at h
    · cases h
    · exact (Memory.readRun_eq_some_iff m n a bs).mp h

theorem Memory.length_read {m : Memory} {a n : Nat} {bs : List Byte} (h : m.read a n = some bs) : bs.length = n :=
  (Memory.read_eq_some h).1

/-- Whether a range can be read depends on the backed addresses alone. -/
theorem Memory.read_isSome_congr {m m' : Memory} (h : m'.addrs = m.addrs) (a n : Nat) :
    (m'.read a n).isSome = (m.read a n).isSome := by
  rw [Bool.eq_iff_iff, Memory.read_isSome_iff, Memory.read_isSome_iff]
  simp only [Memory.isSome_congr h]

/-- `MemWrite` fails exactly where `MemRead` of the range fails (R76). -/
theorem Memory.write_isSome (m : Memory) (a : Nat) (bs : List Byte) :
    (m.write a bs).isSome = (m.read a bs.length).isSome := by
  unfold Memory.write
  split <;> simp_all

/-- What `MemWrite` stores when it succeeds (R76): the range reads as the bytes, the rest as before. -/
theorem Memory.byte_write {m m' : Memory} {a : Nat} {bs : List Byte} (h : m.write a bs = some m') (x : Nat) :
    m'.byte x = if a ≤ x ∧ x < a + bs.length then bs[x - a]? else m.byte x := by
  obtain ⟨rfl, y, hy⟩ := Memory.write_eq_some h
  split
  · next hx =>
    obtain ⟨b, hb⟩ : ∃ b, bs[x - a]? = some b := ⟨bs[x - a]'(by omega), List.getElem?_eq_getElem _⟩
    have hs : (m.byte x).isSome = true := by
      have := (Memory.read_eq_some hy).2 (x - a) (by omega)
      rw [show a + (x - a) = x by omega] at this
      rw [this, List.getElem?_eq_getElem (by rw [Memory.length_read hy]; omega)]; rfl
    have := Memory.byte_writeRun_inside bs m a (x - a) b hb (by rw [show a + (x - a) = x by omega]; exact hs)
    rw [show a + (x - a) = x by omega] at this
    rw [this, hb]
  · exact Memory.byte_writeRun_outside _ _ _ _ (by omega)

/-- Memories in canonical form that read alike are the same data. -/
theorem Memory.ext_byte : ∀ {m m' : Memory}, m.wf = true → m'.wf = true → (∀ a, m.byte a = m'.byte a) → m = m' := by
  intro m
  induction m with
  | nil =>
    intro m' _ _ h
    cases m' with
    | nil => rfl
    | cons c rest => have := h c.1; simp [Memory.byte] at this
  | cons c rest ih =>
    intro m' hw hw' h
    cases m' with
    | nil => have := h c.1; simp [Memory.byte] at this
    | cons d rest' =>
      obtain ⟨hp, hb⟩ := (Memory.wf_iff _).mp hw
      obtain ⟨hp', hb'⟩ := (Memory.wf_iff _).mp hw'
      simp only [Memory.addrs, List.map_cons, List.pairwise_cons, List.mem_cons] at hp hp' hb hb'
      have hnot : ∀ {x y : Host.Cell} {r : Memory}, (∀ a ∈ List.map Prod.fst r, y.1 < a) → x.1 < y.1 →
          Memory.byte (y :: r) x.1 = none := by
        intro x y r hr hxy
        rw [Memory.byte_eq_none_iff]
        simp only [Memory.addrs, List.map_cons, List.mem_cons, not_or]
        exact ⟨by omega, fun hm => by have := hr _ hm; omega⟩
      have hcd : c.1 = d.1 := by
        rcases Nat.lt_trichotomy c.1 d.1 with hlt | heq | hgt
        · have := h c.1
          rw [hnot hp'.1 hlt] at this
          simp [Memory.byte] at this
        · exact heq
        · have := h d.1
          rw [hnot hp.1 hgt] at this
          simp [Memory.byte] at this
      have hval : c = d := by
        have := h c.1
        simp only [Memory.byte, hcd, if_true, Option.some.injEq] at this
        exact Prod.ext hcd this
      subst hval
      congr 1
      refine ih ?_ ?_ ?_
      · exact (Memory.wf_iff _).mpr ⟨hp.2, fun a ha => hb a (Or.inr ha)⟩
      · exact (Memory.wf_iff _).mpr ⟨hp'.2, fun a ha => hb' a (Or.inr ha)⟩
      · intro a
        by_cases hca : c.1 = a
        · subst hca
          have n1 : Memory.byte rest c.1 = none := by
            rw [Memory.byte_eq_none_iff]; intro hm; exact Nat.lt_irrefl _ (hp.1 _ hm)
          have n2 : Memory.byte rest' c.1 = none := by
            rw [Memory.byte_eq_none_iff]; intro hm; exact Nat.lt_irrefl _ (hp'.1 _ hm)
          rw [n1, n2]
        · have := h a
          simpa only [Memory.byte, hca, if_false] using this

/-! ### Byte order (R72) -/

@[simp] theorem length_leBytes (k v : Nat) : (leBytes k v).length = k := by
  induction k generalizing v with
  | zero => rfl
  | succ k ih => simp [leBytes, ih]

theorem leValue_leBytes (k : Nat) : ∀ v : Nat, leValue (leBytes k v) = v % 2 ^ (8 * k) := by
  induction k with
  | zero => intro v; simp [leBytes, leValue, Nat.mod_one]
  | succ k ih =>
    intro v
    rw [leBytes, leValue, ih, BitVec.toNat_ofNat, show 8 * (k + 1) = 8 + 8 * k by omega, Nat.pow_add,
      Nat.mod_mul, show (2 : Nat) ^ 8 = 256 by decide]

/-- `LE64` undoes `toLE64`. -/
theorem le64_toLe64 (v : Quad) : le64 (toLe64 v) = v := by
  apply BitVec.eq_of_toNat_eq
  rw [le64, toLe64, leValue_leBytes, BitVec.toNat_ofNat]
  have := v.isLt
  rw [Nat.mod_mod, Nat.mod_eq_of_lt (by simpa using this)]

end Sys2Proof.Machine
end

