-- ==== Sys2Proof/Laws/Accesses.lean ====
section
/-! SUPPORT. The accesses of a transfer (44_stream_dma.md R274) as the statements speak of them: which bytes land
before the first access that fails, followed along the transfer's own two moves, to the next entry and over one
chunk of the current one. -/

namespace Sys2Proof.Machine

/-- What lands before the first failure depends on which bytes are backed only (R75, R76). -/
theorem bytesBeforeFailure_congr {m m' : Memory} (h : m.addrs = m'.addrs) :
    ∀ l, bytesBeforeFailure m l = bytesBeforeFailure m' l := by
  have hb : ∀ x, (m.byte x).isSome = (m'.byte x).isSome := by
    intro x
    rw [Bool.eq_iff_iff, Memory.byte_isSome_iff, Memory.byte_isSome_iff, h]
  intro l
  induction l with
  | nil => rfl
  | cons p l ih =>
    unfold bytesBeforeFailure
    simp only [hb, ih]

theorem bytesBeforeFailure_empty (m : Memory) (a : Nat) (l : List (Nat × Nat)) :
    bytesBeforeFailure m ((a, 0) :: l) = bytesBeforeFailure m l := by
  conv => lhs; unfold bytesBeforeFailure
  simp

theorem bytesBeforeFailure_cut_zero (m : Memory) : ∀ l, bytesBeforeFailure m (cutSpans 0 l) = 0 := by
  intro l
  induction l with
  | nil => rfl
  | cons p l ih =>
    unfold cutSpans bytesBeforeFailure
    simp [ih]

/-- Spans behind the bytes to move do not count. -/
theorem bytesBeforeFailure_cut_append (m : Memory) : ∀ (X Y : List (Nat × Nat)) (b : Nat), b ≤ (X.map (·.2)).sum →
    bytesBeforeFailure m (cutSpans b (X ++ Y)) = bytesBeforeFailure m (cutSpans b X) := by
  intro X
  induction X with
  | nil =>
    intro Y b h
    have : b = 0 := by simpa using h
    subst this
    rw [bytesBeforeFailure_cut_zero, bytesBeforeFailure_cut_zero]
  | cons p X ih =>
    intro Y b h
    rw [List.cons_append]
    unfold cutSpans bytesBeforeFailure
    rw [ih]
    simp at h ⊢
    omega

/-- The entries that follow entry `e` in one pass over a list, entry `e` itself last. -/
def followers (bdl : List Bdle) (e : Nat) : List Bdle := bdl.drop (e + 1) ++ bdl.take (e + 1)

/-- The next entry is the first of the followers, and becomes the last of its own. -/
theorem followers_step (bdl : List Bdle) (e : Nat) (he : e < bdl.length) :
    ∃ d tl, bdl[(e + 1) % bdl.length]? = some d ∧ followers bdl e = d :: tl ∧
      followers bdl ((e + 1) % bdl.length) = tl ++ [d] := by
  have hlt : (e + 1) % bdl.length < bdl.length := Nat.mod_lt _ (by omega)
  have hrot : followers bdl e = bdl.drop ((e + 1) % bdl.length) ++ bdl.take ((e + 1) % bdl.length) := by
    unfold followers
    by_cases h : e + 1 = bdl.length
    · rw [h, Nat.mod_self]; simp
    · rw [Nat.mod_eq_of_lt (by omega)]
  generalize (e + 1) % bdl.length = e' at *
  refine ⟨bdl[e'], bdl.drop (e' + 1) ++ bdl.take e', List.getElem?_eq_getElem hlt, ?_, ?_⟩
  · rw [hrot, List.drop_eq_getElem_cons hlt]; rfl
  · unfold followers; rw [List.take_succ_eq_append_getElem hlt, List.append_assoc]

theorem passSpans_eq (bdl : List Bdle) (e o : Nat) {d : Bdle} (h : bdl[e]? = some d) :
    passSpans bdl e o =
      (d.addr.toNat + o, d.len.toNat - o) :: (followers bdl e).map fun d => (d.addr.toNat, d.len.toNat) := by
  unfold passSpans followers
  rw [h]
  rfl

theorem sum_followers (bdl : List Bdle) (e : Nat) :
    ((followers bdl e).map fun d => d.len.toNat).sum = totalLen bdl := by
  have h : totalLen (bdl.take (e + 1) ++ bdl.drop (e + 1)) = totalLen bdl := by rw [List.take_append_drop]
  unfold followers totalLen at *
  rw [List.map_append, List.sum_append] at *
  omega

/-- The transfer's first move, from the end of an entry to the start of the next, changes nothing of what lands. -/
theorem landed_next_entry (m : Memory) (bdl : List Bdle) (e o b : Nat) {d : Bdle} (h : bdl[e]? = some d)
    (ho : d.len.toNat ≤ o) (hb : b ≤ totalLen bdl) :
    bytesBeforeFailure m (cutSpans b (passSpans bdl e o)) =
      bytesBeforeFailure m (cutSpans b (passSpans bdl ((e + 1) % bdl.length) 0)) := by
  obtain ⟨d', tl, h1, h2, h3⟩ := followers_step bdl e (List.getElem?_eq_some_iff.mp h).1
  have hsum := sum_followers bdl e
  rw [passSpans_eq bdl e o h, passSpans_eq bdl _ 0 h1, h3, show d.len.toNat - o = 0 by omega]
  have hc : ∀ a l, cutSpans b ((a, 0) :: l) = (a, 0) :: cutSpans b l := by
    intro a l
    show (a, min b 0) :: cutSpans (b - min b 0) l = _
    simp
  have hs : ((d'.addr.toNat + 0, d'.len.toNat - 0) :: (tl ++ [d']).map fun d => (d.addr.toNat, d.len.toNat)) =
      ((d' :: tl).map fun d => (d.addr.toNat, d.len.toNat)) ++ [(d'.addr.toNat, d'.len.toNat)] := by simp
  rw [hc, bytesBeforeFailure_empty, h2, hs, bytesBeforeFailure_cut_append]
  rw [List.map_map, ← h2]
  exact hb.trans (Nat.le_of_eq hsum.symm)

/-- Its second move, one access of the current entry: all its bytes land, or nothing does from there on. -/
theorem landed_chunk (m : Memory) (bdl : List Bdle) (e o b c : Nat) {d : Bdle} (h : bdl[e]? = some d)
    (hc : min b (d.len.toNat - o) = c) (ho : o < d.len.toNat) :
    bytesBeforeFailure m (cutSpans b (passSpans bdl e o)) =
      if ∀ x < c, (m.byte (d.addr.toNat + o + x)).isSome = true then
        c + bytesBeforeFailure m (cutSpans (b - c) (passSpans bdl e (o + c)))
      else 0 := by
  rw [passSpans_eq bdl e o h, passSpans_eq bdl e (o + c) h]
  generalize ((followers bdl e).map fun d => (d.addr.toNat, d.len.toNat)) = rest
  have hz : min (b - c) (d.len.toNat - (o + c)) = 0 := by omega
  have hr : bytesBeforeFailure m (cutSpans (b - c) ((d.addr.toNat + (o + c), d.len.toNat - (o + c)) :: rest)) =
      bytesBeforeFailure m (cutSpans (b - c) rest) := by
    conv => lhs; unfold cutSpans
    rw [hz, bytesBeforeFailure_empty]
    rfl
  rw [hr]
  conv => lhs; unfold cutSpans bytesBeforeFailure
  rw [hc]
  simp only [List.all_eq_true, List.mem_range]

end Sys2Proof.Machine
end

