-- ==== Sys2Proof/Laws/Registers.lean ====
section
/-! SUPPORT. The laws of the register value array: a write is read back, and leaves every other register
alone (00_scope.md R8); the reset values (10_state.md R23, R24). -/

namespace Sys2Proof

/-! ### The registers and their slots -/

theorem GReg.allRegs_get (r : GReg) : allRegs[r.desc.id]? = some (.glob r) := by cases r <;> rfl

theorem SReg.allRegs_get (k : SReg) (n : Stream) : allRegs[(k.desc n).id]? = some (.str k n) := by
  match n with
  | 0 => cases k <;> rfl
  | 1 => cases k <;> rfl
  | 2 => cases k <;> rfl
  | 3 => cases k <;> rfl
  | 4 => cases k <;> rfl
  | 5 => cases k <;> rfl
  | 6 => cases k <;> rfl
  | 7 => cases k <;> rfl

/-- The list of all registers has each register at the place of its id. -/
theorem Reg.allRegs_get (r : Reg) : allRegs[r.desc.id]? = some r := by
  cases r with
  | glob r => exact r.allRegs_get
  | str k n => exact k.allRegs_get n

theorem Reg.mem_allRegs (r : Reg) : r ∈ allRegs := List.mem_of_getElem? r.allRegs_get

theorem Reg.id_inj {r r' : Reg} (h : r.desc.id = r'.desc.id) : r = r' := by
  have a := r.allRegs_get
  rw [h, r'.allRegs_get] at a
  exact (Option.some.inj a).symm

/-- Two registers never share a slot. -/
theorem Reg.slot_inj {r r' : Reg} (h : r.slot = r'.slot) : r = r' :=
  Reg.id_inj (congrArg Fin.val h)

theorem mem_allStreams (n : Stream) : n ∈ allStreams := by revert n; decide

/-! ### What depends on the number of streams (10_state.md R23, R27, R34) -/

/-- The number of streams as a numeral, for arithmetic. -/
theorem nStreams_eq : nStreams = 8 := rfl

/-- The mask of INTCTL and INTSTS has bits 30 and 31 and one bit for each stream, for every number of streams. -/
theorem intMask_getLsbD (n k : Nat) (hk : k < 32) :
    (intMask n).getLsbD k = (decide (k < n) || decide (30 ≤ k)) := by
  have h : ∀ k < 32, (0xC0000000 : Word).getLsbD k = decide (30 ≤ k) := by decide
  unfold intMask
  rw [BitVec.getLsbD_or, h k hk, BitVec.getLsbD_ofNat, Nat.testBit_two_pow_sub_one, Bool.or_comm]
  simp [hk]

/-- The fields of GCAP at reset, OSS and ISS among them (R27), for every number that the fields can hold. -/
theorem gcapReset_fields : ∀ ins outs : Fin 16,
    (gcapReset ins outs).extractLsb' 12 4 = BitVec.ofNat 4 outs ∧ (gcapReset ins outs).extractLsb' 8 4 = BitVec.ofNat 4 ins ∧
    (gcapReset ins outs).extractLsb' 0 8 = 0x01 ∧ (gcapReset ins outs).extractLsb' 16 16 = 0 := by
  decide +kernel

namespace Machine

/-! ### Reading and writing -/

theorem RegFile.rd_put_same (f : RegFile) (r : Reg) (v : Word) : (f.put r v).rd r = v &&& r.fullMask := by
  simp [RegFile.rd, RegFile.put, Reg.slot, Vector.get_eq_getElem]

theorem RegFile.rd_put_of_ne (f : RegFile) {r r' : Reg} (h : r' ≠ r) (v : Word) : (f.put r v).rd r' = f.rd r' := by
  have hs : r.slot.val ≠ r'.slot.val := fun e => h (Reg.slot_inj (Fin.ext e.symm))
  simp [RegFile.rd, RegFile.put, Vector.get_eq_getElem, Vector.getElem_set_ne _ _ hs]

@[simp] theorem RegFile.rd_put (f : RegFile) (r r' : Reg) (v : Word) :
    (f.put r v).rd r' = if r' = r then v &&& r.fullMask else f.rd r' := by
  split
  · next h => subst h; exact f.rd_put_same _ v
  · next h => exact f.rd_put_of_ne h v

theorem State.reg_setReg (s : State) (r r' : Reg) (v : Word) :
    (s.setReg r v).reg r' = if r' = r then v &&& r.fullMask else s.reg r' := RegFile.rd_put _ _ _ _

theorem State.orReg_eq (s : State) (r : Reg) (v : Word) : s.orReg r v = s.setReg r (s.reg r ||| v) := rfl

theorem State.setField_eq (s : State) (r : Reg) (m v : Word) :
    s.setField r m v = s.setReg r ((s.reg r &&& ~~~m) ||| (v &&& m)) := rfl

/-- Two register files that agree on every register are equal. -/
theorem RegFile.ext_rd {f g : RegFile} (h : ∀ r, f.rd r = g.rd r) : f = g := by
  apply Vector.ext
  intro i hi
  have hlen : i < allRegs.length := by simpa [show allRegs.length = 106 from rfl] using hi
  have hr : (allRegs[i]).desc.id = i := by
    have : ∀ (k : Fin 106), (allRegs[k.val]'(by simp [show allRegs.length = 106 from rfl])).desc.id = k.val := by
      decide +kernel
    exact this ⟨i, hi⟩
  have := h allRegs[i]
  simpa [RegFile.rd, Reg.slot, Vector.get_eq_getElem, hr] using this

/-- Every register of a reset register file holds its reset value (10_state.md R23, R24). -/
@[simp] theorem resetRegs_rd (r : Reg) : resetRegs.rd r = r.resetVal := by
  have h : r.desc.id < allRegs.length := by simpa [show allRegs.length = 106 from rfl] using r.id_lt
  have e : allRegs[r.desc.id] = r := by
    have := r.allRegs_get
    rw [List.getElem?_eq_getElem h] at this
    exact Option.some.inj this
  have : (allRegs.map Reg.resetVal)[r.desc.id]'(by simpa using h) = r.resetVal := by rw [List.getElem_map, e]
  exact this

/-! ### Streams' records -/

@[simp] theorem State.setDma_dma (s : State) (n : Stream) (d : Dma) :
    (s.setDma n d).dma = s.dma.set n.val d n.isLt := rfl

@[simp] theorem State.dmaOf_setDma (s : State) (n m : Stream) (d : Dma) :
    (s.setDma n d).dmaOf m = if m = n then d else s.dmaOf m := by
  unfold State.dmaOf
  simp only [State.setDma_dma, Vector.get_eq_getElem, Vector.getElem_set]
  by_cases h : m = n
  · simp [h]
  · have : ¬ n.val = m.val := fun e => h (Fin.ext e.symm)
    simp [h, this]

theorem State.dmaOf_congr {s t : State} (h : t.dma = s.dma) (n : Stream) : t.dmaOf n = s.dmaOf n := by
  unfold State.dmaOf; rw [h]

@[simp] theorem State.dmaOf_setReg (s : State) (r : Reg) (v : Word) (n : Stream) : (s.setReg r v).dmaOf n = s.dmaOf n := rfl
@[simp] theorem State.dmaOf_orReg (s : State) (r : Reg) (v : Word) (n : Stream) : (s.orReg r v).dmaOf n = s.dmaOf n := rfl
@[simp] theorem State.dmaOf_setField (s : State) (r : Reg) (m v : Word) (n : Stream) : (s.setField r m v).dmaOf n = s.dmaOf n := rfl
@[simp] theorem State.dmaOf_countUnmappedWrite (s : State) (n : Stream) : (s.countUnmappedWrite).dmaOf n = s.dmaOf n := rfl
@[simp] theorem State.dmaOf_countReservedBits (s : State) (n : Stream) : (s.countReservedBits).dmaOf n = s.dmaOf n := rfl
@[simp] theorem State.dmaOf_countDroppedWhileRunning (s : State) (n : Stream) : (s.countDroppedWhileRunning).dmaOf n = s.dmaOf n := rfl
@[simp] theorem State.dmaOf_countRingSizeIgnored (s : State) (n : Stream) : (s.countRingSizeIgnored).dmaOf n = s.dmaOf n := rfl
@[simp] theorem State.dmaOf_countRingResetIgnored (s : State) (n : Stream) : (s.countRingResetIgnored).dmaOf n = s.dmaOf n := rfl
@[simp] theorem State.dmaOf_countBlockedInReset (s : State) (n : Stream) : (s.countBlockedInReset).dmaOf n = s.dmaOf n := rfl
@[simp] theorem State.dmaOf_countSkipped (s : State) (m : Stream) (n : Stream) : (s.countSkipped m).dmaOf n = s.dmaOf n := rfl
@[simp] theorem State.dmaOf_countXrun (s : State) (m : Stream) (n : Stream) : (s.countXrun m).dmaOf n = s.dmaOf n := rfl
@[simp] theorem State.dmaOf_countFlowError (s : State) (m : Stream) (n : Stream) : (s.countFlowError m).dmaOf n = s.dmaOf n := rfl
@[simp] theorem State.dmaOf_countStartRefused (s : State) (m : Stream) (n : Stream) : (s.countStartRefused m).dmaOf n = s.dmaOf n := rfl
@[simp] theorem State.dmaOf_raise (s : State) (c : ErrorClass) (n : Stream) : (s.raise c).dmaOf n = s.dmaOf n := rfl
@[simp] theorem State.dmaOf_recordCall (s : State) (c : SinkCall) (n : Stream) : (s.recordCall c).dmaOf n = s.dmaOf n := rfl
@[simp] theorem State.dmaOf_raiseTimes (s : State) (c : ErrorClass) (k : Nat) (n : Stream) :
    (s.raiseTimes c k).dmaOf n = s.dmaOf n := State.dmaOf_congr (by simp) n
@[simp] theorem State.dmaOf_driveWire (s : State) (b : Bool) (n : Stream) : (s.driveWire b).dmaOf n = s.dmaOf n :=
  State.dmaOf_congr (by simp) n
@[simp] theorem State.dmaOf_codecLookup (s : State) (c : Word) (n : Stream) :
    (s.codecLookup c).2.dmaOf n = s.dmaOf n := State.dmaOf_congr (by simp) n
@[simp] theorem State.dmaOf_sinkAsk (s : State) (c : SinkCall) (n : Stream) :
    (s.sinkAsk c).2.dmaOf n = s.dmaOf n := State.dmaOf_congr (by simp) n

theorem State.dma_ext {v w : Vector Dma 8} (h : ∀ n : Stream, v.get n = w.get n) : v = w := by
  apply Vector.ext
  intro i hi
  exact h ⟨i, hi⟩

theorem get_replicate {α : Type} (d : α) (n : Fin 8) : (Vector.replicate 8 d).get n = d := by
  simp [Vector.get_eq_getElem]

end Machine
end Sys2Proof
end

