-- ==== Sys2Proof/Laws/Bits.lean ====
section
/-! SUPPORT. Bit algebra of masked register stores: a field that is written is read back, every bit
outside the mask is kept, a mask reads as a remainder. -/

namespace Sys2Proof.Machine

/-- The field written is read back. -/
theorem field_same (x v m f : Word) (h : m &&& f = m) : (((x &&& ~~~m) ||| (v &&& m)) &&& f) &&& m = v &&& m := by
  ext i hi
  have := congrArg (fun y : Word => y[i]) h
  simp only [BitVec.getElem_and, BitVec.getElem_or, BitVec.getElem_not] at this ⊢
  revert this
  cases x[i] <;> cases v[i] <;> cases m[i] <;> cases f[i] <;> simp

/-- A field outside the mask written is kept. -/
theorem field_other (x v m f k : Word) (h : m &&& k = 0) : (((x &&& ~~~m) ||| (v &&& m)) &&& f) &&& k = (x &&& f) &&& k := by
  ext i hi
  have := congrArg (fun y : Word => y[i]) h
  simp only [BitVec.getElem_and, BitVec.getElem_or, BitVec.getElem_not] at this ⊢
  revert this
  cases x[i] <;> cases v[i] <;> cases m[i] <;> cases f[i] <;> cases k[i] <;> simp

theorem and_and_self (x m : Word) : (x &&& m) &&& m = x &&& m := by
  rw [BitVec.and_assoc, BitVec.and_self]

theorem and_of_and_eq {x m f : Word} (h : m &&& f = m) : (x &&& m) &&& f = x &&& m := by
  rw [BitVec.and_assoc, h]

theorem toNat_and_ff (x : Word) : (x &&& 0xFF).toNat = x.toNat % 256 := by
  have e : (0xFF : Word).toNat = 2 ^ 8 - 1 := rfl
  rw [BitVec.toNat_and, e, Nat.and_two_pow_sub_one_eq_mod]

theorem toNat_and_ff_lt (x : Word) : (x &&& 0xFF).toNat < 256 := by
  rw [toNat_and_ff]; exact Nat.mod_lt _ (by decide)

/-- A number below 256 survives the low-byte mask. -/
theorem toNat_ofNat_and_ff {n : Nat} (h : n < 256) : (BitVec.ofNat 32 n &&& 0xFF).toNat = n := by
  rw [toNat_and_ff, BitVec.toNat_ofNat, Nat.mod_mod_of_dvd _ (by decide), Nat.mod_eq_of_lt h]

/-! ### The capacities -/

theorem capacity_pos (c : BitVec 2) : 0 < capacity c := by
  revert c; decide

theorem capacity_le (c : BitVec 2) : capacity c ≤ 256 := by
  revert c; decide

theorem RegFile.corbCap_pos (f : RegFile) : 0 < f.corbCap := capacity_pos _
theorem RegFile.rirbCap_pos (f : RegFile) : 0 < f.rirbCap := capacity_pos _
theorem RegFile.corbCap_le (f : RegFile) : f.corbCap ≤ 256 := capacity_le _
theorem RegFile.rirbCap_le (f : RegFile) : f.rirbCap ≤ 256 := capacity_le _

theorem RegFile.threshold_pos (f : RegFile) : 0 < f.threshold := by
  unfold RegFile.threshold
  dsimp only
  split <;> omega

theorem RegFile.threshold_le (f : RegFile) : f.threshold ≤ 256 := by
  unfold RegFile.threshold
  have := toNat_and_ff_lt (f.rd (.glob .rintcnt))
  dsimp only
  split
  · omega
  · exact Nat.le_of_lt this

/-! ### The ring pointers after a store -/

theorem corbRp_setField (s : State) {n : Nat} (h : n < 256) :
    (s.setField (.glob .corbrp) 0xFF (BitVec.ofNat 32 n)).regs.corbRp = n := by
  unfold RegFile.corbRp
  rw [State.setField_eq, State.setReg_regs, RegFile.rd_put_same, field_same _ _ _ _ (by decide), toNat_ofNat_and_ff h]

theorem rirbWp_setField (s : State) {n : Nat} (h : n < 256) :
    (s.setField (.glob .rirbwp) 0xFF (BitVec.ofNat 32 n)).regs.rirbWp = n := by
  unfold RegFile.rirbWp
  rw [State.setField_eq, State.setReg_regs, RegFile.rd_put_same, field_same _ _ _ _ (by decide), toNat_ofNat_and_ff h]

end Sys2Proof.Machine
end

