-- ==== Sys2Proof/Laws/Exec.lean ====
section
/-! SUPPORT. The instructions by their forms: what `exec` does, said once per form, and that forms and
instructions correspond one to one. -/

namespace Sys2Proof

/-- An instruction is the one its form stands for. -/
theorem Instr.ofForm_form (i : Instr) : Instr.ofForm i.form = i := by cases i <;> rfl

/-- A form is the form of the instruction it stands for. -/
theorem Instr.form_ofForm (f : Form) : (Instr.ofForm f).form = f := by
  cases f with
  | rd t lo w =>
    match t with
    | .reg (.glob r) => cases r <;> rfl
    | .reg (.str k n) =>
      match n with
      | 0 | 1 | 2 | 3 | 4 | 5 | 6 | 7 => cases k <;> rfl
    | .dup .walclk => rfl
    | .dup (.lpib n) =>
      match n with
      | 0 | 1 | 2 | 3 | 4 | 5 | 6 | 7 => rfl
  | wr t lo w v =>
    match t with
    | .reg (.glob r) => cases r <;> rfl
    | .reg (.str k n) =>
      match n with
      | 0 | 1 | 2 | 3 | 4 | 5 | 6 | 7 => cases k <;> rfl
    | .dup .walclk => rfl
    | .dup (.lpib n) =>
      match n with
      | 0 | 1 | 2 | 3 | 4 | 5 | 6 | 7 => rfl
  | rdUnmapped off w => rfl
  | wrUnmapped off w v => rfl
  | drain => rfl
  | tick n => rfl
  | sink n k => rfl
  | time d => rfl
  | save => rfl
  | restore => rfl
  | poweroff => rfl
  | poreset => rfl

namespace Machine

/-- What a form does, as one of the operations of 00_scope.md R4. -/
def runForm (f : Form) (s : State) : Host.Outcome State Fault Refusal :=
  match f with
  | .rd t lo w => .next (hostRead (t.off + lo.val) w s)
  | .wr t lo w v => .next (hostWrite (t.off + lo.val) w v s)
  | .rdUnmapped off w => .next (hostRead off.toNat w s)
  | .wrUnmapped off w v => .next (hostWrite off.toNat w v s)
  | .drain => execDrain s
  | .tick n => execTick n s
  | .sink n k => execSink n k s
  | .time d => execTime d s
  | .save => execSave s
  | .restore => execRestore s
  | .poweroff => execPoweroff s
  | .poreset => execPoreset s

/-- `exec` does what the instruction's form does. -/
theorem exec_eq_runForm (i : Instr) (s : State) : exec i s = runForm i.form s := by cases i <;> rfl

/-- Every constructor of a read row is a bus read at its row's offset. -/
theorem exec_rd {i : Instr} {t : Target} {lo : Fin 4} {w : Width} (h : i.form = .rd t lo w) (s : State) :
    exec i s = .next (hostRead (t.off + lo.val) w s) := by rw [exec_eq_runForm, h]; rfl

/-- Every constructor of a write row is a bus write at its row's offset. -/
theorem exec_wr {i : Instr} {t : Target} {lo : Fin 4} {w : Width} {v : Word} (h : i.form = .wr t lo w v)
    (s : State) : exec i s = .next (hostWrite (t.off + lo.val) w v s) := by rw [exec_eq_runForm, h]; rfl

/-- What an operation that has a next state is: everything that `exec` can do, by operation (R4). -/
theorem exec_next {i : Instr} {s t : State} (h : exec i s = .next t) :
    (∃ off w, t = hostRead off w s) ∨ (∃ off w v, t = hostWrite off w v s) ∨
    (s.corbKick = true ∧ t = drain s) ∨ (∃ n, tick n s = .next t) ∨ (∃ n k, t = sinkStep n k s) ∨
    (∃ d : Word, s.now + d.toNat < 2 ^ 64 ∧ t = { s with now := s.now + d.toNat }) ∨ t = save s ∨
    (∃ r, s.saved = some r ∧ t = restore r s) ∨ t = poweroff s ∨ t = poreset s := by
  have inj : ∀ {x y : State}, (Host.Outcome.next x : Host.Outcome State Fault Refusal) = .next y → y = x :=
    fun e => (Host.Outcome.next.inj e).symm
  rw [exec_eq_runForm] at h
  cases hf : i.form with
  | rd u lo w => rw [hf] at h; exact .inl ⟨_, _, inj h⟩
  | wr u lo w v => rw [hf] at h; exact .inr (.inl ⟨_, _, _, inj h⟩)
  | rdUnmapped off w => rw [hf] at h; exact .inl ⟨_, _, inj h⟩
  | wrUnmapped off w v => rw [hf] at h; exact .inr (.inl ⟨_, _, _, inj h⟩)
  | drain =>
    rw [hf] at h
    simp only [runForm, execDrain] at h
    split at h
    · next hk => exact .inr (.inr (.inl ⟨hk, inj h⟩))
    · cases h
  | tick n =>
    rw [hf] at h
    simp only [runForm, execTick] at h
    split at h
    · exact .inr (.inr (.inr (.inl ⟨_, h⟩)))
    · cases h
  | sink n k =>
    rw [hf] at h
    simp only [runForm, execSink] at h
    split at h
    · exact .inr (.inr (.inr (.inr (.inl ⟨_, _, inj h⟩))))
    · cases h
  | time d =>
    rw [hf] at h
    simp only [runForm, execTime, timeStep] at h
    split at h
    · next hd => exact .inr (.inr (.inr (.inr (.inr (.inl ⟨d, hd, inj h⟩)))))
    · cases h
  | save => rw [hf] at h; exact .inr (.inr (.inr (.inr (.inr (.inr (.inl (inj h)))))))
  | restore =>
    rw [hf] at h
    simp only [runForm, execRestore] at h
    split at h
    · next r hr => exact .inr (.inr (.inr (.inr (.inr (.inr (.inr (.inl ⟨r, hr, inj h⟩)))))))
    · cases h
  | poweroff => rw [hf] at h; exact .inr (.inr (.inr (.inr (.inr (.inr (.inr (.inr (.inl (inj h)))))))))
  | poreset => rw [hf] at h; exact .inr (.inr (.inr (.inr (.inr (.inr (.inr (.inr (.inr (inj h)))))))))

/-- A step that has a next state takes the next word of the sequence and performs its instruction. -/
theorem step_next {s s' : State} (h : step s = .next s') :
    ∃ x rest i, s.pending = x :: rest ∧ decode x = .ok i ∧ exec i { s with pending := rest } = .next s' := by
  unfold step State.takeWord at h
  cases hp : s.pending with
  | nil => rw [hp] at h; cases h
  | cons x rest =>
    rw [hp] at h
    dsimp only at h
    cases hd : decode x with
    | error e => rw [hd] at h; cases h
    | ok i => rw [hd] at h; exact ⟨x, rest, i, rfl, hd, h⟩

end Machine
end Sys2Proof
end

