-- ==== Sys2Proof/Laws/Streams.lean ====
section
/-! SUPPORT. What the stream operations can do, said once each: SD.DISABLE, SD.RESET, SD.START
(44_stream_dma.md), and the two relations the frames are written with. -/

namespace Sys2Proof.Machine

/-! ### Two frames -/

/-- From `s` to `t` nothing outside the controller's registers, streams, mirrors and counters changed:
guest memory, the wire, the time, the sequence and what the outside was shown are the same (the calls to
the sinks and the agents' answers apart). -/
structure Quiet (s t : State) : Prop where
  cfg : t.cfg = s.cfg
  mem : t.mem = s.mem
  saved : t.saved = s.saved
  now : t.now = s.now
  pending : t.pending = s.pending
  irqLevel : t.irqLevel = s.irqLevel
  wire : t.out.wire = s.out.wire
  readData : t.out.readData = s.out.readData
  sinkMoved : t.out.sinkMoved = s.out.sinkMoved
  rendered : t.out.rendered = s.out.rendered

theorem Quiet.refl (s : State) : Quiet s s := ⟨rfl, rfl, rfl, rfl, rfl, rfl, rfl, rfl, rfl, rfl⟩

theorem Quiet.trans {s t u : State} (h : Quiet s t) (k : Quiet t u) : Quiet s u :=
  ⟨k.cfg.trans h.cfg, k.mem.trans h.mem, k.saved.trans h.saved, k.now.trans h.now, k.pending.trans h.pending,
   k.irqLevel.trans h.irqLevel, k.wire.trans h.wire, k.readData.trans h.readData,
   k.sinkMoved.trans h.sinkMoved, k.rendered.trans h.rendered⟩

/-- From `s` to `t` nothing but stream `n` changed (its registers, its engine), apart from what `Quiet`
leaves open outside the controller's own state. -/
structure OnlyStream (n : Stream) (s t : State) : Prop where
  quiet : Quiet s t
  regs : ∀ r, r.ofStream n = false → t.regs.rd r = s.regs.rd r
  dma : ∀ m, m ≠ n → t.dmaOf m = s.dmaOf m
  corbBuf : t.corbBuf = s.corbBuf
  rirbBuf : t.rirbBuf = s.rirbBuf
  respPending : t.respPending = s.respPending
  corbKick : t.corbKick = s.corbKick
  wcEpoch : t.wcEpoch = s.wcEpoch

theorem OnlyStream.refl (n : Stream) (s : State) : OnlyStream n s s :=
  ⟨Quiet.refl s, fun _ _ => rfl, fun _ _ => rfl, rfl, rfl, rfl, rfl, rfl⟩

theorem OnlyStream.trans {n : Stream} {s t u : State} (h : OnlyStream n s t) (k : OnlyStream n t u) :
    OnlyStream n s u :=
  ⟨h.quiet.trans k.quiet, fun r hr => (k.regs r hr).trans (h.regs r hr), fun m hm => (k.dma m hm).trans (h.dma m hm),
   k.corbBuf.trans h.corbBuf, k.rirbBuf.trans h.rirbBuf, k.respPending.trans h.respPending,
   k.corbKick.trans h.corbKick, k.wcEpoch.trans h.wcEpoch⟩

theorem OnlyStream.glob {n : Stream} {s t : State} (h : OnlyStream n s t) (r : GReg) :
    t.regs.rd (.glob r) = s.regs.rd (.glob r) := h.regs _ rfl

theorem OnlyStream.str {n m : Stream} {s t : State} (h : OnlyStream n s t) (hm : m ≠ n) (k : SReg) :
    t.regs.rd (.str k m) = s.regs.rd (.str k m) := h.regs _ (decide_eq_false hm)

/-! ### The small updates -/

theorem onlyStream_setReg (s : State) (n : Stream) (k : SReg) (v : Word) : OnlyStream n s (s.setReg (.str k n) v) := by
  refine ⟨⟨rfl, rfl, rfl, rfl, rfl, rfl, rfl, rfl, rfl, rfl⟩, ?_, fun _ _ => rfl, rfl, rfl, rfl, rfl, rfl⟩
  intro r hr
  have : r ≠ .str k n := by rintro rfl; simp [Reg.ofStream] at hr
  simp [this]

theorem onlyStream_orReg (s : State) (n : Stream) (k : SReg) (v : Word) : OnlyStream n s (s.orReg (.str k n) v) :=
  onlyStream_setReg s n k _

theorem onlyStream_setDma (s : State) (n : Stream) (d : Dma) : OnlyStream n s (s.setDma n d) := by
  refine ⟨⟨rfl, rfl, rfl, rfl, rfl, rfl, rfl, rfl, rfl, rfl⟩, fun _ _ => rfl, ?_, rfl, rfl, rfl, rfl, rfl⟩
  intro m hm
  simp [hm]

/-- Updates of the counters, the sink calls and the agents' answers. -/
theorem onlyStream_of_eq {n : Stream} {s t : State} (hq : Quiet s t) (hr : t.regs = s.regs) (hd : t.dma = s.dma)
    (hc : t.corbBuf = s.corbBuf) (hb : t.rirbBuf = s.rirbBuf) (hp : t.respPending = s.respPending)
    (hk : t.corbKick = s.corbKick) (hw : t.wcEpoch = s.wcEpoch) : OnlyStream n s t :=
  ⟨hq, fun _ _ => by rw [hr], fun m _ => State.dmaOf_congr hd m, hc, hb, hp, hk, hw⟩

theorem quiet_raise (s : State) (c : ErrorClass) : Quiet s (s.raise c) :=
  ⟨rfl, rfl, rfl, rfl, rfl, rfl, rfl, rfl, rfl, rfl⟩

theorem quiet_raiseTimes (s : State) (c : ErrorClass) (k : Nat) : Quiet s (s.raiseTimes c k) := by
  induction k generalizing s with
  | zero => exact Quiet.refl s
  | succ k ih => exact (quiet_raise s c).trans (ih _)

theorem onlyStream_raise (s : State) (n : Stream) (c : ErrorClass) : OnlyStream n s (s.raise c) :=
  onlyStream_of_eq (quiet_raise s c) rfl rfl rfl rfl rfl rfl rfl

theorem onlyStream_raiseTimes (s : State) (n : Stream) (c : ErrorClass) (k : Nat) :
    OnlyStream n s (s.raiseTimes c k) :=
  onlyStream_of_eq (quiet_raiseTimes s c k) (by simp) (by simp) (by simp) (by simp) (by simp) (by simp) (by simp)

theorem onlyStream_countXrun (s : State) (n : Stream) : OnlyStream n s (s.countXrun n) :=
  onlyStream_of_eq ⟨rfl, rfl, rfl, rfl, rfl, rfl, rfl, rfl, rfl, rfl⟩ rfl rfl rfl rfl rfl rfl rfl

theorem onlyStream_countFlowError (s : State) (n : Stream) : OnlyStream n s (s.countFlowError n) :=
  onlyStream_of_eq ⟨rfl, rfl, rfl, rfl, rfl, rfl, rfl, rfl, rfl, rfl⟩ rfl rfl rfl rfl rfl rfl rfl

theorem onlyStream_countSkipped (s : State) (n : Stream) : OnlyStream n s (s.countSkipped n) :=
  onlyStream_of_eq ⟨rfl, rfl, rfl, rfl, rfl, rfl, rfl, rfl, rfl, rfl⟩ rfl rfl rfl rfl rfl rfl rfl

theorem onlyStream_countStartRefused (s : State) (n : Stream) : OnlyStream n s (s.countStartRefused n) :=
  onlyStream_of_eq ⟨rfl, rfl, rfl, rfl, rfl, rfl, rfl, rfl, rfl, rfl⟩ rfl rfl rfl rfl rfl rfl rfl

theorem onlyStream_recordCall (s : State) (n : Stream) (c : SinkCall) : OnlyStream n s (s.recordCall c) :=
  onlyStream_of_eq ⟨rfl, rfl, rfl, rfl, rfl, rfl, rfl, rfl, rfl, rfl⟩ rfl rfl rfl rfl rfl rfl rfl

theorem onlyStream_sinkAsk (s : State) (n : Stream) (c : SinkCall) : OnlyStream n s (s.sinkAsk c).2 := by
  refine onlyStream_of_eq ⟨?_, ?_, ?_, ?_, ?_, ?_, ?_, ?_, ?_, ?_⟩ ?_ ?_ ?_ ?_ ?_ ?_ ?_ <;> simp

/-! ### SD.DISABLE (R283) -/

/-- What SD.DISABLE does to the stream's engine. -/
theorem sdDisable_dmaOf (n m : Stream) (s : State) :
    (sdDisable n s).dmaOf m =
      if m = n ∧ (s.dmaOf n).running = true then { s.dmaOf n with running := false, ring := [] } else s.dmaOf m := by
  unfold sdDisable
  by_cases hr : (s.dmaOf n).running = true
  · rw [if_pos hr]
    by_cases hm : m = n
    · subst hm; by_cases he : (s.dmaOf m).ring = [] <;> simp [he, hr]
    · by_cases he : (s.dmaOf n).ring = [] <;> simp [he, hm]
  · simp [hr]

/-- SD.DISABLE changes no register (R283). -/
@[simp] theorem sdDisable_regs (n : Stream) (s : State) : (sdDisable n s).regs = s.regs := by
  unfold sdDisable
  by_cases hr : (s.dmaOf n).running = true
  · by_cases he : (s.dmaOf n).ring = [] <;> simp [he, hr]
  · simp [hr]

theorem onlyStream_sdDisable (n : Stream) (s : State) : OnlyStream n s (sdDisable n s) := by
  unfold sdDisable
  by_cases hr : (s.dmaOf n).running = true
  · dsimp only
    rw [if_pos hr]
    by_cases he : (s.dmaOf n).ring = []
    · rw [if_pos he]
      exact (onlyStream_setDma s n _).trans (onlyStream_recordCall _ n _)
    · rw [if_neg he]
      exact ((onlyStream_setDma s n _).trans (onlyStream_countXrun _ n)).trans (onlyStream_recordCall _ n _)
  · rw [if_neg hr]; exact OnlyStream.refl n s

/-- SD.DISABLE of a stream whose engine is not armed does nothing: it is idempotent (R283). -/
theorem sdDisable_of_not_running {n : Stream} {s : State} (h : (s.dmaOf n).running = false) : sdDisable n s = s := by
  unfold sdDisable; simp [h]

theorem sdDisable_not_running (n : Stream) (s : State) : ((sdDisable n s).dmaOf n).running = false := by
  rw [sdDisable_dmaOf]
  by_cases hr : (s.dmaOf n).running = true
  · simp [hr]
  · simp [hr]

/-! ### SD.RESET (R286) -/

theorem streamRegs_mem (k : SReg) : k ∈ streamRegs := by cases k <;> decide

theorem SReg.resetVal_full (k : SReg) (n : Stream) :
    (Reg.str k n).resetVal &&& (Reg.str k n).fullMask = (Reg.str k n).resetVal := by
  revert n; cases k <;> decide

theorem foldl_setReg_rd (n : Stream) (l : List SReg) : ∀ (s : State) (r : Reg),
    (l.foldl (fun s k => s.setReg (.str k n) (Reg.str k n).resetVal) s).regs.rd r =
      if r ∈ l.map (Reg.str · n) then r.resetVal else s.regs.rd r := by
  induction l with
  | nil => intro s r; simp
  | cons k rest ih =>
    intro s r
    rw [List.foldl_cons, ih, List.map_cons]
    by_cases h1 : r ∈ rest.map (Reg.str · n)
    · rw [if_pos h1, if_pos (List.mem_cons_of_mem _ h1)]
    · rw [if_neg h1]
      by_cases h2 : r = .str k n
      · subst h2
        rw [if_pos (List.mem_cons_self ..)]
        simp [SReg.resetVal_full]
      · rw [if_neg, State.setReg_regs, RegFile.rd_put_of_ne _ h2]
        intro hm
        rcases List.mem_cons.mp hm with e | hm
        · exact h2 e
        · exact h1 hm

theorem Reg.ofStream_iff (n : Stream) (r : Reg) : r.ofStream n = true ↔ r ∈ streamRegs.map (Reg.str · n) := by
  rw [List.mem_map]
  cases r with
  | glob r => simp [Reg.ofStream]
  | str k m =>
    simp only [Reg.ofStream, decide_eq_true_iff]
    constructor
    · rintro rfl; exact ⟨k, streamRegs_mem k, rfl⟩
    · rintro ⟨j, _, e⟩; cases e; rfl

theorem resetStreamRegs_rd (n : Stream) (s : State) (r : Reg) :
    (resetStreamRegs n s).regs.rd r = if r.ofStream n = true then r.resetVal else s.regs.rd r := by
  unfold resetStreamRegs
  rw [foldl_setReg_rd]
  simp only [Reg.ofStream_iff]

theorem onlyStream_resetStreamRegs (n : Stream) (s : State) : OnlyStream n s (resetStreamRegs n s) := by
  unfold resetStreamRegs
  generalize streamRegs = l
  induction l generalizing s with
  | nil => exact OnlyStream.refl n s
  | cons k rest ih => exact (onlyStream_setReg s n k _).trans (ih _)

/-- Every register of the stream takes its reset value (R286). -/
theorem sdReset_rd (n : Stream) (s : State) (r : Reg) :
    (sdReset n s).regs.rd r = if r.ofStream n = true then r.resetVal else s.regs.rd r := by
  unfold sdReset; rw [State.setDma_regs, resetStreamRegs_rd]

/-- The stream's engine takes the reset column of R59; no other engine changes (R286). -/
theorem sdReset_dmaOf (n m : Stream) (s : State) :
    (sdReset n s).dmaOf m = if m = n then Dma.reset else s.dmaOf m := by
  unfold sdReset
  rw [State.dmaOf_setDma]
  split
  · rfl
  · next h => exact (onlyStream_resetStreamRegs n s).dma m h

theorem onlyStream_sdReset (n : Stream) (s : State) : OnlyStream n s (sdReset n s) :=
  (onlyStream_resetStreamRegs n s).trans (onlyStream_setDma _ n _)

/-! ### SD.START (R262 to R264) -/

/-- The engine's record right after the bookkeeping of R262, before the list is fetched. -/
def Dma.starting (d : Dma) (tag : BitVec 4) : Dma :=
  { d with boundTag := tag, curEntry := 0, curOff := 0, schedIdx := 0, schedLoop := 0, pendingIrq := 0,
           bdl := [], sched := [], running := false, ring := [] }

theorem startPosition_dmaOf (n : Stream) (s : State) :
    (startPosition s n).dmaOf n = (s.dmaOf n).starting (s.regs.tag n) := by
  simp [startPosition, Dma.starting]

theorem startPosition_rd (n : Stream) (s : State) (r : Reg) :
    (startPosition s n).regs.rd r = if r = .str .lpib n then 0 else s.regs.rd r := by
  simp [startPosition]

theorem onlyStream_startPosition (n : Stream) (s : State) : OnlyStream n s (startPosition s n) :=
  (onlyStream_setDma s n _).trans (onlyStream_setReg _ n .lpib 0)

theorem startPosition_counts (n : Stream) (s : State) : (startPosition s n).counts = s.counts := rfl

theorem fetchBdl_startPosition (n : Stream) (s : State) : fetchBdl (startPosition s n) n = fetchBdl s n := by
  unfold fetchBdl RegFile.bdlBase RegFile.entryCount
  simp [startPosition_rd, (onlyStream_startPosition n s).quiet.mem]

theorem loadBdl_regs (n : Stream) (bytes : List Byte) (s : State) : (loadBdl n bytes s).regs = s.regs := by
  simp [loadBdl]

theorem loadBdl_dmaOf (n : Stream) (bytes : List Byte) (s : State) :
    (loadBdl n bytes s).dmaOf n = { s.dmaOf n with bdl := decodeBdl bytes (s.regs.entryCount n) } := by
  simp [loadBdl]

theorem onlyStream_loadBdl (n : Stream) (bytes : List Byte) (s : State) : OnlyStream n s (loadBdl n bytes s) :=
  (onlyStream_raiseTimes s n _ _).trans (onlyStream_setDma _ n _)

theorem onlyStream_refuseStart (n : Stream) (s : State) : OnlyStream n s (refuseStart n s) :=
  (onlyStream_raise s n _).trans (onlyStream_countStartRefused _ n)

theorem refuseStart_dmaOf (n m : Stream) (s : State) : (refuseStart n s).dmaOf m = s.dmaOf m := rfl

theorem refuseStart_regs (n : Stream) (s : State) : (refuseStart n s).regs = s.regs := rfl

theorem onlyStream_askSink (n : Stream) (f : Fmt) (s : State) : OnlyStream n s (askSink n f s).2 :=
  (onlyStream_sinkAsk s n _).trans (onlyStream_sinkAsk _ n _)

@[simp] theorem askSink_regs (n : Stream) (f : Fmt) (s : State) : (askSink n f s).2.regs = s.regs := by
  simp [askSink]

@[simp] theorem askSink_dmaOf (n m : Stream) (f : Fmt) (s : State) : (askSink n f s).2.dmaOf m = s.dmaOf m := by
  simp [askSink]

theorem onlyStream_noteBackend (n : Stream) (ok : Bool) (s : State) : OnlyStream n s (noteBackend n ok s) := by
  unfold noteBackend
  split
  · exact OnlyStream.refl n s
  · exact (onlyStream_raise s n _).trans (onlyStream_countFlowError _ n)

@[simp] theorem noteBackend_regs (n : Stream) (ok : Bool) (s : State) : (noteBackend n ok s).regs = s.regs := by
  unfold noteBackend; split <;> rfl

@[simp] theorem noteBackend_dmaOf (n m : Stream) (ok : Bool) (s : State) :
    (noteBackend n ok s).dmaOf m = s.dmaOf m := by
  unfold noteBackend; split <;> rfl

@[simp] theorem noteBackend_now (n : Stream) (ok : Bool) (s : State) : (noteBackend n ok s).now = s.now :=
  (onlyStream_noteBackend n ok s).quiet.now

@[simp] theorem noteBackend_cfg (n : Stream) (ok : Bool) (s : State) : (noteBackend n ok s).cfg = s.cfg :=
  (onlyStream_noteBackend n ok s).quiet.cfg

@[simp] theorem askSink_now (n : Stream) (f : Fmt) (s : State) : (askSink n f s).2.now = s.now :=
  (onlyStream_askSink n f s).quiet.now

@[simp] theorem askSink_cfg (n : Stream) (f : Fmt) (s : State) : (askSink n f s).2.cfg = s.cfg :=
  (onlyStream_askSink n f s).quiet.cfg

@[simp] theorem armStream_regs (n : Stream) (f : Fmt) (s : State) : (armStream n f s).regs = s.regs := by
  simp [armStream]

/-- The record of an armed engine (R262, last lines). -/
theorem armStream_dmaOf (n : Stream) (f : Fmt) (s : State) :
    (armStream n f s).dmaOf n =
      { s.dmaOf n with
        sched := buildSchedule s.cfg (s.dmaOf n).bdl f, sinkOk := (askSink n f s).1, running := true,
        tsLast := s.now, tsNext := s.now + ticksAt (buildSchedule s.cfg (s.dmaOf n).bdl f) 0 } := by
  simp [armStream]

theorem onlyStream_armStream (n : Stream) (f : Fmt) (s : State) : OnlyStream n s (armStream n f s) :=
  ((onlyStream_askSink n f s).trans (onlyStream_noteBackend n _ _)).trans (onlyStream_setDma _ n _)

theorem onlyStream_startLoaded (n : Stream) (s : State) : OnlyStream n s (startLoaded n s) := by
  unfold startLoaded
  cases startFormat s n (s.dmaOf n).bdl with
  | none => exact onlyStream_refuseStart n s
  | some f => exact onlyStream_armStream n f s

theorem onlyStream_startFetch (n : Stream) (s : State) : OnlyStream n s (startFetch n s) := by
  unfold startFetch
  cases fetchBdl s n with
  | none => exact ((onlyStream_raise _ n _).trans (onlyStream_orReg _ n .sts _)).trans (onlyStream_refuseStart n _)
  | some bytes => exact (onlyStream_loadBdl n bytes s).trans (onlyStream_startLoaded n _)

/-- SD.START changes nothing outside its stream. -/
theorem onlyStream_sdStart (n : Stream) (s : State) : OnlyStream n s (sdStart n s) :=
  (onlyStream_startPosition n s).trans (onlyStream_startFetch n _)

/-- The conditions of R263, over the registers at the start and the list fetched. -/
theorem startFormat_congr {s t : State} {n : Stream} {bdl : List Bdle} (hc : t.cfg = s.cfg)
    (hr : ∀ k, k ≠ .lpib → t.regs.rd (.str k n) = s.regs.rd (.str k n)) :
    startFormat t n bdl = startFormat s n bdl := by
  unfold startFormat RegFile.cbl
  rw [State.reg_eq, State.reg_eq, hr .cbl (by decide), hr .fmt (by decide), hc]

theorem startFormat_after_load (n : Stream) (bytes : List Byte) (bdl : List Bdle) (s : State) :
    startFormat (loadBdl n bytes (startPosition s n)) n bdl = startFormat s n bdl := by
  apply startFormat_congr
  · exact ((onlyStream_startPosition n s).trans (onlyStream_loadBdl n bytes _)).quiet.cfg
  · intro k hk
    rw [loadBdl_regs, startPosition_rd, if_neg]
    intro e; cases e; exact hk rfl

theorem entryCount_startPosition (n : Stream) (s : State) :
    (startPosition s n).regs.entryCount n = s.regs.entryCount n := by
  unfold RegFile.entryCount; rw [startPosition_rd, if_neg (by simp)]

theorem sdStart_fetched {n : Stream} {s : State} {bytes : List Byte} (h : fetchBdl s n = some bytes) :
    sdStart n s = startLoaded n (loadBdl n bytes (startPosition s n)) := by
  unfold sdStart startFetch
  rw [fetchBdl_startPosition, h]

theorem bdl_loaded (n : Stream) (bytes : List Byte) (s : State) :
    ((loadBdl n bytes (startPosition s n)).dmaOf n) =
      { (s.dmaOf n).starting (s.regs.tag n) with bdl := decodeBdl bytes (s.regs.entryCount n) } := by
  rw [loadBdl_dmaOf, entryCount_startPosition, startPosition_dmaOf]

theorem rd_loaded (n : Stream) (bytes : List Byte) (s : State) (r : Reg) :
    (loadBdl n bytes (startPosition s n)).regs.rd r = if r = .str .lpib n then 0 else s.regs.rd r := by
  rw [loadBdl_regs, startPosition_rd]

/-- SD.START whose list cannot be fetched (R264): DESE is set, LPIB is 0, the engine is not armed. -/
theorem sdStart_unfetched {n : Stream} {s : State} (h : fetchBdl s n = none) :
    (sdStart n s).dmaOf n = (s.dmaOf n).starting (s.regs.tag n) ∧
    ∀ r, (sdStart n s).regs.rd r =
      if r = .str .sts n then (s.regs.rd (.str .sts n) ||| deseBit) &&& (Reg.str .sts n).fullMask
      else if r = .str .lpib n then 0 else s.regs.rd r := by
  have e : sdStart n s = refuseStart n (((startPosition s n).raise .fatal).orReg (.str .sts n) deseBit) := by
    unfold sdStart startFetch
    rw [fetchBdl_startPosition, h]
  have hd := startPosition_dmaOf n s
  have hr := startPosition_rd n s
  rw [e]
  generalize startPosition s n = u at hd hr
  refine ⟨?_, ?_⟩
  · rw [refuseStart_dmaOf, State.dmaOf_orReg, State.dmaOf_raise, hd]
  · intro r
    rw [refuseStart_regs, State.orReg_eq, State.setReg_regs, RegFile.rd_put, State.reg_eq, State.raise_regs, hr, hr,
      if_neg (show ¬ Reg.str .sts n = .str .lpib n by simp)]

/-- SD.START whose preconditions fail (R263): nothing but LPIB and the engine's bookkeeping changes. -/
theorem sdStart_refused {n : Stream} {s : State} {bytes : List Byte} (h : fetchBdl s n = some bytes)
    (hf : startFormat s n (decodeBdl bytes (s.regs.entryCount n)) = none) :
    (sdStart n s).dmaOf n =
      { (s.dmaOf n).starting (s.regs.tag n) with bdl := decodeBdl bytes (s.regs.entryCount n) } ∧
    ∀ r, (sdStart n s).regs.rd r = if r = .str .lpib n then 0 else s.regs.rd r := by
  have hd := bdl_loaded n bytes s
  have hr := rd_loaded n bytes s
  have hs := startFormat_after_load n bytes (decodeBdl bytes (s.regs.entryCount n)) s
  rw [sdStart_fetched h]
  generalize loadBdl n bytes (startPosition s n) = u at hd hr hs
  have e : startLoaded n u = refuseStart n u := by unfold startLoaded; rw [hd, hs, hf]
  rw [e]
  exact ⟨hd, hr⟩

/-- SD.START that is accepted (R262): the engine is armed with the schedule of its list. -/
theorem sdStart_armed {n : Stream} {s : State} {bytes : List Byte} {f : Fmt} (h : fetchBdl s n = some bytes)
    (hf : startFormat s n (decodeBdl bytes (s.regs.entryCount n)) = some f) :
    (∃ ok, (sdStart n s).dmaOf n =
      { (s.dmaOf n).starting (s.regs.tag n) with
        bdl := decodeBdl bytes (s.regs.entryCount n),
        sched := buildSchedule s.cfg (decodeBdl bytes (s.regs.entryCount n)) f, sinkOk := ok, running := true,
        tsLast := s.now,
        tsNext := s.now + ticksAt (buildSchedule s.cfg (decodeBdl bytes (s.regs.entryCount n)) f) 0 }) ∧
    ∀ r, (sdStart n s).regs.rd r = if r = .str .lpib n then 0 else s.regs.rd r := by
  have hq := ((onlyStream_startPosition n s).trans (onlyStream_loadBdl n bytes (startPosition s n))).quiet
  have hd := bdl_loaded n bytes s
  have hr := rd_loaded n bytes s
  have hs := startFormat_after_load n bytes (decodeBdl bytes (s.regs.entryCount n)) s
  rw [sdStart_fetched h]
  generalize loadBdl n bytes (startPosition s n) = u at hd hr hs hq
  have e : startLoaded n u = armStream n f u := by unfold startLoaded; rw [hd, hs, hf]
  rw [e]
  refine ⟨⟨(askSink n f u).1, ?_⟩, fun r => by rw [armStream_regs, hr]⟩
  rw [armStream_dmaOf, hd, hq.cfg, hq.now]

end Sys2Proof.Machine
end

