-- ==== Sys2Proof/Laws/Reset.lean ====
section
/-! SUPPORT. What the controller-wide operations can do, said once each: SD.DISABLE of every stream,
CTRL.RESET, LEAVE.RESET, PORESET and POWEROFF. -/

namespace Sys2Proof.Machine

/-! ### SD.DISABLE of every stream -/

/-- A fold over the streams that leaves the controller's own words alone is quiet if each part is. -/
theorem quiet_foldl {f : State → Stream → State} (hf : ∀ s n, Quiet s (f s n)) (l : List Stream) :
    ∀ s, Quiet s (l.foldl f s) := by
  induction l with
  | nil => intro s; exact Quiet.refl s
  | cons n rest ih => intro s; exact (hf s n).trans (ih _)

theorem quiet_disableAll (s : State) : Quiet s (disableAll s) :=
  quiet_foldl (fun s n => (onlyStream_sdDisable n s).quiet) _ s

@[simp] theorem disableAll_regs (s : State) : (disableAll s).regs = s.regs := by
  unfold disableAll
  generalize allStreams = l
  induction l generalizing s with
  | nil => rfl
  | cons n rest ih => rw [List.foldl_cons, ih, sdDisable_regs]

/-- What disabling an engine makes of its record (R283). -/
def Dma.disabled (d : Dma) : Dma := if d.running then { d with running := false, ring := [] } else d

theorem Dma.disabled_running (d : Dma) : d.disabled.running = false := by
  unfold Dma.disabled; split <;> simp_all

theorem foldl_stream_dmaOf {f : State → Stream → State} {g : Dma → Dma}
    (hs : ∀ s n, (f s n).dmaOf n = g (s.dmaOf n)) (ho : ∀ s n m, m ≠ n → (f s n).dmaOf m = s.dmaOf m)
    (l : List Stream) (hn : l.Nodup) : ∀ s m, (l.foldl f s).dmaOf m = if m ∈ l then g (s.dmaOf m) else s.dmaOf m := by
  induction l with
  | nil => intro s m; simp
  | cons n rest ih =>
    intro s m
    obtain ⟨h1, h2⟩ := List.nodup_cons.mp hn
    rw [List.foldl_cons, ih h2]
    by_cases hm : m = n
    · subst hm
      rw [if_neg h1, if_pos (List.mem_cons_self ..), hs]
    · rw [ho s n m hm]
      simp only [List.mem_cons, hm, false_or]

theorem allStreams_nodup : allStreams.Nodup := by decide

theorem disableAll_dmaOf (s : State) (m : Stream) : (disableAll s).dmaOf m = (s.dmaOf m).disabled := by
  unfold disableAll
  rw [foldl_stream_dmaOf (g := Dma.disabled) ?_ ?_ _ allStreams_nodup, if_pos (mem_allStreams m)]
  · intro s n
    rw [sdDisable_dmaOf]
    unfold Dma.disabled
    by_cases h : (s.dmaOf n).running = true <;> simp [h]
  · intro s n m hm
    rw [sdDisable_dmaOf]; simp [hm]

theorem disableAll_fields (s : State) :
    (disableAll s).corbBuf = s.corbBuf ∧ (disableAll s).rirbBuf = s.rirbBuf ∧
    (disableAll s).respPending = s.respPending ∧ (disableAll s).corbKick = s.corbKick ∧
    (disableAll s).wcEpoch = s.wcEpoch := by
  unfold disableAll
  generalize allStreams = l
  induction l generalizing s with
  | nil => exact ⟨rfl, rfl, rfl, rfl, rfl⟩
  | cons n rest ih =>
    rw [List.foldl_cons]
    obtain ⟨a, b, c, d, e⟩ := ih (sdDisable n s)
    have h := onlyStream_sdDisable n s
    exact ⟨a.trans h.corbBuf, b.trans h.rirbBuf, c.trans h.respPending, d.trans h.corbKick, e.trans h.wcEpoch⟩

/-! ### CTRL.RESET (R158) -/

/-- The reset of one stream inside CTRL.RESET. -/
def disableReset (s : State) (n : Stream) : State := sdReset n (sdDisable n s)

theorem onlyStream_disableReset (s : State) (n : Stream) : OnlyStream n s (disableReset s n) :=
  (onlyStream_sdDisable n s).trans (onlyStream_sdReset n _)

/-- Every register takes its reset value (R158). -/
@[simp] theorem ctrlReset_regs (s : State) : (ctrlReset s).regs = resetRegs := by
  unfold ctrlReset
  generalize allStreams.foldl _ s = u
  rfl

/-- Every stream's engine takes the reset column of R59 (R158). -/
theorem ctrlReset_dmaOf (s : State) (m : Stream) : (ctrlReset s).dmaOf m = Dma.reset := by
  unfold ctrlReset
  have h : (allStreams.foldl (fun s n => sdReset n (sdDisable n s)) s).dmaOf m = Dma.reset := by
    rw [foldl_stream_dmaOf (g := fun _ => Dma.reset) ?_ ?_ _ allStreams_nodup, if_pos (mem_allStreams m)]
    · intro s n; rw [sdReset_dmaOf, if_pos rfl]
    · intro s n m hm; exact (onlyStream_disableReset s n).dma m hm
  generalize allStreams.foldl (fun s n => sdReset n (sdDisable n s)) s = u at h
  exact h

theorem ctrlReset_fields (s : State) :
    (ctrlReset s).corbBuf = Vector.replicate 256 0 ∧ (ctrlReset s).rirbBuf = Vector.replicate 256 0 ∧
    (ctrlReset s).respPending = 0 ∧ (ctrlReset s).corbKick = false := by
  unfold ctrlReset
  generalize allStreams.foldl _ s = u
  exact ⟨rfl, rfl, rfl, rfl⟩

theorem foldl_wcEpoch {f : State → Stream → State} (hf : ∀ s n, (f s n).wcEpoch = s.wcEpoch) (l : List Stream) :
    ∀ s, (l.foldl f s).wcEpoch = s.wcEpoch := by
  induction l with
  | nil => intro s; rfl
  | cons n rest ih => intro s; exact (ih _).trans (hf s n)

/-- CTRL.RESET does not change the epoch (R158). -/
theorem ctrlReset_wcEpoch (s : State) : (ctrlReset s).wcEpoch = s.wcEpoch := by
  have h := foldl_wcEpoch (f := fun s n => sdReset n (sdDisable n s))
    (fun s n => (onlyStream_disableReset s n).wcEpoch) allStreams s
  unfold ctrlReset
  generalize allStreams.foldl (fun s n => sdReset n (sdDisable n s)) s = u at h
  exact h

theorem quiet_resetCore (s : State) : Quiet s (resetCore s) :=
  ⟨rfl, rfl, rfl, rfl, rfl, rfl, rfl, rfl, rfl, rfl⟩

/-- CTRL.RESET touches neither guest memory nor the wire nor the time (R158). -/
theorem quiet_ctrlReset (s : State) : Quiet s (ctrlReset s) := by
  have h := quiet_foldl (f := fun s n => sdReset n (sdDisable n s))
    (fun s n => (onlyStream_disableReset s n).quiet) allStreams s
  unfold ctrlReset
  generalize allStreams.foldl (fun s n => sdReset n (sdDisable n s)) s = u at h
  exact h.trans (quiet_resetCore u)

/-! ### LEAVE.RESET (R157) -/

/-- LEAVE.RESET sets state-change bits, zeroes the wall clock and takes the epoch; nothing else (R157). -/
theorem leaveReset_eq (s : State) :
    leaveReset s =
      { s with
        regs := (s.regs.put (.glob .statests)
          (s.regs.rd (.glob .statests) ||| (s.cfg.codecMask &&& 0x7FFF).setWidth 32)).put (.glob .walclk) 0,
        wcEpoch := s.now } := rfl

theorem quiet_leaveReset (s : State) : Quiet s (leaveReset s) :=
  ⟨rfl, rfl, rfl, rfl, rfl, rfl, rfl, rfl, rfl, rfl⟩

/-! ### PORESET (R360) -/

@[simp] theorem poreset_regs (s : State) : (poreset s).regs = resetRegs := by simp [poreset, resetCore]

theorem poreset_dma (s : State) : (poreset s).dma = Vector.replicate 8 Dma.reset := by simp [poreset]

@[simp] theorem poreset_dmaOf (s : State) (n : Stream) : (poreset s).dmaOf n = Dma.reset := by
  unfold State.dmaOf; rw [poreset_dma, get_replicate]

/-- Everything PORESET says of the controller's own state, and what it leaves alone (R360, R361). -/
theorem poreset_fields (s : State) :
    (poreset s).corbBuf = Vector.replicate 256 0 ∧ (poreset s).rirbBuf = Vector.replicate 256 0 ∧
    (poreset s).respPending = 0 ∧ (poreset s).corbKick = false ∧ (poreset s).irqLevel = false ∧
    (poreset s).wcEpoch = s.now ∧ (poreset s).counts = Counts.zero ∧ (poreset s).now = s.now ∧
    (poreset s).cfg = s.cfg ∧ (poreset s).mem = s.mem ∧ (poreset s).saved = s.saved ∧
    (poreset s).pending = s.pending := by
  have h := quiet_disableAll s
  simp [poreset, resetCore, h.now, h.cfg, h.mem, h.saved, h.pending]

theorem poreset_wire (s : State) :
    (poreset s).out.wire = if s.irqLevel = false then s.out.wire else false :: s.out.wire := by
  have h := quiet_disableAll s
  unfold poreset
  generalize disableAll s = u at h
  simp [State.driveWire_wire, resetCore, h.irqLevel, h.wire]

end Sys2Proof.Machine
end

