-- ==== Sys2Proof/Laws/Rings.lean ====
section
/-! SUPPORT. What the ring engine's operations can do, said once each: RIRB.FLUSH, the append of one
response, the loop of DRAIN, and DRAIN (42_corb_rirb.md). -/

namespace Sys2Proof.Machine

/-- From `s` to `t` only the ring engine's words changed: CORBRP, RIRBWP, RIRBSTS, the mirrors, the pending
count, the bytes of backed guest memory, and the codec's answers taken. -/
structure RingOnly (s t : State) : Prop where
  cfg : t.cfg = s.cfg
  dma : t.dma = s.dma
  wcEpoch : t.wcEpoch = s.wcEpoch
  now : t.now = s.now
  counts : t.counts = s.counts
  saved : t.saved = s.saved
  pending : t.pending = s.pending
  irqLevel : t.irqLevel = s.irqLevel
  out : t.out = s.out
  corbKick : t.corbKick = s.corbKick
  addrs : t.mem.addrs = s.mem.addrs
  regs : ∀ r, r ≠ .glob .corbrp → r ≠ .glob .rirbwp → r ≠ .glob .rirbsts → t.regs.rd r = s.regs.rd r

theorem RingOnly.refl (s : State) : RingOnly s s :=
  ⟨rfl, rfl, rfl, rfl, rfl, rfl, rfl, rfl, rfl, rfl, rfl, fun _ _ _ _ => rfl⟩

theorem RingOnly.trans {s t u : State} (h : RingOnly s t) (k : RingOnly t u) : RingOnly s u :=
  ⟨k.cfg.trans h.cfg, k.dma.trans h.dma, k.wcEpoch.trans h.wcEpoch, k.now.trans h.now, k.counts.trans h.counts,
   k.saved.trans h.saved, k.pending.trans h.pending, k.irqLevel.trans h.irqLevel, k.out.trans h.out,
   k.corbKick.trans h.corbKick, k.addrs.trans h.addrs,
   fun r a b c => (k.regs r a b c).trans (h.regs r a b c)⟩

theorem RingOnly.corbCap {s t : State} (h : RingOnly s t) : t.regs.corbCap = s.regs.corbCap := by
  unfold RegFile.corbCap; rw [h.regs _ (by decide) (by decide) (by decide)]

theorem RingOnly.rirbCap {s t : State} (h : RingOnly s t) : t.regs.rirbCap = s.regs.rirbCap := by
  unfold RegFile.rirbCap; rw [h.regs _ (by decide) (by decide) (by decide)]

theorem RingOnly.corbWp {s t : State} (h : RingOnly s t) : t.regs.corbWp = s.regs.corbWp := by
  unfold RegFile.corbWp; rw [h.regs _ (by decide) (by decide) (by decide)]

theorem RingOnly.unsol {s t : State} (h : RingOnly s t) : t.regs.unsol = s.regs.unsol := by
  unfold RegFile.unsol; rw [h.regs _ (by decide) (by decide) (by decide)]

theorem RingOnly.threshold {s t : State} (h : RingOnly s t) : t.regs.threshold = s.regs.threshold := by
  unfold RegFile.threshold; rw [h.regs _ (by decide) (by decide) (by decide)]

theorem RingOnly.rirbBase {s t : State} (h : RingOnly s t) : t.regs.rirbBase = s.regs.rirbBase := by
  unfold RegFile.rirbBase
  rw [h.regs _ (by decide) (by decide) (by decide), h.regs _ (by decide) (by decide) (by decide)]

theorem RingOnly.rintctl {s t : State} (h : RingOnly s t) : t.regs.rintctl = s.regs.rintctl := by
  unfold RegFile.rintctl; rw [h.regs _ (by decide) (by decide) (by decide)]

/-! ### RIRB.FLUSH (R207, R209) -/

/-- Guest memory after a flush: the mirror written, or, where the write fails, nothing (R207, R209). -/
def flushedMem (s : State) : Memory := (s.mem.write s.regs.rirbBase (rirbBytes s.rirbBuf s.regs.rirbCap)).getD s.mem

/-- RIRB.FLUSH writes the mirror, zeroes the pending count, and sets RINTFL if RINTCTL is set; it does
nothing else (R207). -/
theorem rirbFlush_eq (s : State) :
    rirbFlush s =
      { s with
        mem := flushedMem s, respPending := 0,
        regs := if s.regs.rintctl = true then s.regs.put (.glob .rirbsts) (s.regs.rd (.glob .rirbsts) ||| rintflBit)
                else s.regs } := by
  unfold rirbFlush
  dsimp only
  by_cases h : s.regs.rintctl = true
  · rw [if_pos h, if_pos h]; rfl
  · rw [if_neg h, if_neg h]; rfl

theorem flushedMem_addrs (s : State) : (flushedMem s).addrs = s.mem.addrs := by
  unfold flushedMem
  cases h : s.mem.write s.regs.rirbBase (rirbBytes s.rirbBuf s.regs.rirbCap) with
  | none => rfl
  | some m => exact Memory.addrs_write h

theorem ringOnly_rirbFlush (s : State) : RingOnly s (rirbFlush s) := by
  rw [rirbFlush_eq]
  refine ⟨rfl, rfl, rfl, rfl, rfl, rfl, rfl, rfl, rfl, rfl, flushedMem_addrs s, ?_⟩
  intro r _ _ h
  by_cases hc : s.regs.rintctl = true
  · simp [hc, h]
  · simp [hc]

@[simp] theorem rirbFlush_respPending (s : State) : (rirbFlush s).respPending = 0 := by rw [rirbFlush_eq]
@[simp] theorem rirbFlush_corbBuf (s : State) : (rirbFlush s).corbBuf = s.corbBuf := by rw [rirbFlush_eq]
@[simp] theorem rirbFlush_rirbBuf (s : State) : (rirbFlush s).rirbBuf = s.rirbBuf := by rw [rirbFlush_eq]
@[simp] theorem rirbFlush_oracle (s : State) : (rirbFlush s).oracle = s.oracle := by rw [rirbFlush_eq]

/-- A flush moves no pointer (R207). -/
theorem rirbFlush_rd {s : State} {r : Reg} (h : r ≠ .glob .rirbsts) : (rirbFlush s).regs.rd r = s.regs.rd r := by
  rw [rirbFlush_eq]
  by_cases hc : s.regs.rintctl = true
  · simp [hc, h]
  · simp [hc]

@[simp] theorem rirbFlush_corbRp (s : State) : (rirbFlush s).regs.corbRp = s.regs.corbRp := by
  unfold RegFile.corbRp; rw [rirbFlush_rd (by decide)]
@[simp] theorem rirbFlush_corbWp (s : State) : (rirbFlush s).regs.corbWp = s.regs.corbWp := by
  unfold RegFile.corbWp; rw [rirbFlush_rd (by decide)]
@[simp] theorem rirbFlush_rirbWp (s : State) : (rirbFlush s).regs.rirbWp = s.regs.rirbWp := by
  unfold RegFile.rirbWp; rw [rirbFlush_rd (by decide)]

/-! ### The command mirror (R204, R209) -/

theorem foldl_setIfInBounds {α : Type} (f : Nat → α) (v : Vector α 256) : ∀ (k : Nat), k ≤ 256 → ∀ i : Nat,
    ((List.range k).foldl (fun b j => b.setIfInBounds j (f j)) v)[i]? = if i < k then some (f i) else v[i]? := by
  intro k
  induction k with
  | zero => intro _ i; simp
  | succ k ih =>
    intro hk i
    rw [List.range_succ, List.foldl_append, List.foldl_cons, List.foldl_nil, Vector.getElem?_setIfInBounds]
    by_cases hi : k = i
    · subst hi; simp; omega
    · rw [if_neg hi, ih (by omega)]
      by_cases h : i < k
      · rw [if_pos h, if_pos (by omega)]
      · rw [if_neg h, if_neg (by omega)]

/-- The mirror of the command ring: the words of guest memory below the capacity, zeros where the read
failed; the rest as before (R204, R209). -/
theorem mirrorCorb_corbBuf (s : State) (i : Nat) :
    (mirrorCorb s).corbBuf[i]? =
      if i < s.regs.corbCap then some (corbWordAt (s.mem.read s.regs.corbBase (4 * s.regs.corbCap)) i)
      else s.corbBuf[i]? := by
  unfold mirrorCorb
  dsimp only
  rw [foldl_setIfInBounds _ _ _ s.regs.corbCap_le]

/-- Mirroring changes nothing but the mirror. -/
theorem mirrorCorb_eq (s : State) : mirrorCorb s = { s with corbBuf := (mirrorCorb s).corbBuf } := rfl

theorem ringOnly_mirrorCorb (s : State) : RingOnly s (mirrorCorb s) :=
  ⟨rfl, rfl, rfl, rfl, rfl, rfl, rfl, rfl, rfl, rfl, rfl, fun _ _ _ _ => rfl⟩

/-! ### One response (R204, R206) -/

/-- The state of an append before the threshold is looked at. -/
def appended (resp : Quad) (s : State) : State :=
  { s with
    rirbBuf := s.rirbBuf.setIfInBounds ((s.regs.rirbWp + 1) % s.regs.rirbCap) resp,
    respPending := s.respPending + 1 }.setField (.glob .rirbwp) 0xFF
      (BitVec.ofNat 32 ((s.regs.rirbWp + 1) % s.regs.rirbCap))

theorem appendResponse_eq (resp : Quad) (s : State) :
    appendResponse resp s =
      if s.regs.threshold ≤ s.respPending + 1 then rirbFlush (appended resp s) else appended resp s := by
  have e : (appended resp s).regs.threshold = s.regs.threshold := by
    unfold RegFile.threshold appended
    rw [State.setField_eq, State.setReg_regs, RegFile.rd_put_of_ne _ (by decide)]
  have e' : (appended resp s).respPending = s.respPending + 1 := rfl
  rw [← e, ← e']
  rfl

theorem ringOnly_appended (resp : Quad) (s : State) : RingOnly s (appended resp s) := by
  refine ⟨rfl, rfl, rfl, rfl, rfl, rfl, rfl, rfl, rfl, rfl, rfl, ?_⟩
  intro r _ h _
  unfold appended
  rw [State.setField_eq, State.setReg_regs, RegFile.rd_put_of_ne _ h]

theorem ringOnly_appendResponse (resp : Quad) (s : State) : RingOnly s (appendResponse resp s) := by
  rw [appendResponse_eq]
  split
  · exact (ringOnly_appended resp s).trans (ringOnly_rirbFlush _)
  · exact ringOnly_appended resp s

theorem appended_rirbWp (resp : Quad) (s : State) :
    (appended resp s).regs.rirbWp = (s.regs.rirbWp + 1) % s.regs.rirbCap := by
  unfold appended
  exact rirbWp_setField _ (Nat.lt_of_lt_of_le (Nat.mod_lt _ s.regs.rirbCap_pos) s.regs.rirbCap_le)

/-- An append advances the response write pointer by one place (R204). -/
theorem appendResponse_rirbWp (resp : Quad) (s : State) :
    (appendResponse resp s).regs.rirbWp = (s.regs.rirbWp + 1) % s.regs.rirbCap := by
  rw [appendResponse_eq]
  split
  · rw [rirbFlush_rirbWp, appended_rirbWp]
  · rw [appended_rirbWp]

theorem appended_corbRp (resp : Quad) (s : State) : (appended resp s).regs.corbRp = s.regs.corbRp := by
  unfold appended RegFile.corbRp
  rw [State.setField_eq, State.setReg_regs, RegFile.rd_put_of_ne _ (by decide)]

@[simp] theorem appendResponse_corbRp (resp : Quad) (s : State) :
    (appendResponse resp s).regs.corbRp = s.regs.corbRp := by
  rw [appendResponse_eq]
  split
  · rw [rirbFlush_corbRp, appended_corbRp]
  · rw [appended_corbRp]

/-- An append stores the response at the new write pointer and nowhere else (R204). -/
theorem appendResponse_rirbBuf (resp : Quad) (s : State) :
    (appendResponse resp s).rirbBuf =
      s.rirbBuf.setIfInBounds ((s.regs.rirbWp + 1) % s.regs.rirbCap) resp := by
  rw [appendResponse_eq]
  split
  · rw [rirbFlush_rirbBuf]; rfl
  · rfl

/-- The pending count after an append: zero if it reached the threshold (R206). -/
theorem appendResponse_respPending (resp : Quad) (s : State) :
    (appendResponse resp s).respPending = if s.regs.threshold ≤ s.respPending + 1 then 0 else s.respPending + 1 := by
  rw [appendResponse_eq]
  split
  · rw [rirbFlush_respPending]
  · rfl

@[simp] theorem appendResponse_corbBuf (resp : Quad) (s : State) : (appendResponse resp s).corbBuf = s.corbBuf := by
  rw [appendResponse_eq]
  split
  · rw [rirbFlush_corbBuf]; rfl
  · rfl

@[simp] theorem appendResponse_oracle (resp : Quad) (s : State) : (appendResponse resp s).oracle = s.oracle := by
  rw [appendResponse_eq]
  split
  · rw [rirbFlush_oracle]; rfl
  · rfl

/-! ### One command (R204) -/

theorem ringOnly_setRp (s : State) (v : Word) : RingOnly s (s.setField (.glob .corbrp) 0xFF v) := by
  refine ⟨rfl, rfl, rfl, rfl, rfl, rfl, rfl, rfl, rfl, rfl, rfl, ?_⟩
  intro r h _ _
  rw [State.setField_eq, State.setReg_regs, RegFile.rd_put_of_ne _ h]

theorem ringOnly_consume (nxt : Nat) (resp : Quad) (s : State) : RingOnly s (consume nxt resp s) :=
  (ringOnly_setRp s _).trans (ringOnly_appendResponse resp _)

theorem consume_corbRp {nxt : Nat} (h : nxt < 256) (resp : Quad) (s : State) :
    (consume nxt resp s).regs.corbRp = nxt := by
  unfold consume; rw [appendResponse_corbRp, corbRp_setField s h]

theorem ringOnly_codecLookup (s : State) (cmd : Word) : RingOnly s (s.codecLookup cmd).2 :=
  ⟨by simp, by simp, by simp, by simp, by simp, by simp, by simp, by simp, by simp, by simp, by simp,
   fun _ _ _ _ => by simp⟩

/-! ### DRAIN -/

/-- The index of the next command (R191). -/
def nextCommand (s : State) : Nat := (s.regs.corbRp + 1) % s.regs.corbCap

theorem nextCommand_lt (s : State) : nextCommand s < 256 :=
  Nat.lt_of_lt_of_le (Nat.mod_lt _ s.regs.corbCap_pos) s.regs.corbCap_le

/-- The answer of the next lookup, and the state with it taken. -/
def nextLookup (s : State) : Option Quad × State := s.codecLookup (s.corbBuf[nextCommand s]?.getD 0)

/-- One turn of the loop of DRAIN (R204, R205). -/
theorem drainLoop_succ (fuel : Nat) (s : State) :
    drainLoop (fuel + 1) s =
      if s.regs.corbRp = s.regs.corbWp then s
      else if suppressed (nextLookup s).2 (responseOf (nextLookup s).1) then (nextLookup s).2
      else drainLoop fuel (consume (nextCommand s) (responseOf (nextLookup s).1) (nextLookup s).2) := rfl

theorem ringOnly_drainLoop (fuel : Nat) : ∀ s, RingOnly s (drainLoop fuel s) := by
  induction fuel with
  | zero => intro s; exact RingOnly.refl s
  | succ fuel ih =>
    intro s
    rw [drainLoop_succ]
    have hl : RingOnly s (nextLookup s).2 := ringOnly_codecLookup s _
    split
    · exact RingOnly.refl s
    · split
      · exact hl
      · exact (hl.trans (ringOnly_consume _ _ _)).trans (ih _)

theorem ringOnly_flushIfEmpty (s : State) : RingOnly s (flushIfEmpty s) := by
  unfold flushIfEmpty
  split
  · exact ringOnly_rirbFlush s
  · exact RingOnly.refl s

/-- The part of DRAIN between its guard and IRQ.EVAL. -/
def drainBody (s : State) : State := flushIfEmpty (drainLoop 256 (mirrorCorb s))

theorem ringOnly_drainBody (s : State) : RingOnly s (drainBody s) :=
  ((ringOnly_mirrorCorb s).trans (ringOnly_drainLoop 256 _)).trans (ringOnly_flushIfEmpty _)

/-- DRAIN clears the kick; if the engine is stopped or the pointer reset unacknowledged it does no more,
else it runs its body and ends with IRQ.EVAL (R204). -/
theorem drain_eq (s : State) :
    drain s =
      if s.regs.corbRun = false ∨ s.regs.corbRst = true then { s with corbKick := false }
      else irqEval (drainBody { s with corbKick := false }) := by
  unfold drain drainBody
  dsimp only
  cases h1 : s.regs.corbRun <;> cases h2 : s.regs.corbRst <;> simp

end Sys2Proof.Machine
end

