-- ==== Sys2Proof/Laws/Bus.lean ====
section
/-! SUPPORT. What a bus transaction can do, said once: the handlers leave guest memory, the wire and the
time alone; a transaction inside one register is one handler call; the end of a write. -/

namespace Sys2Proof

/-- Every row of the opcode table that starts in a register. -/
def allTargets : List Target :=
  allRegs.map Target.reg ++ Target.dup .walclk :: allStreams.map fun n => Target.dup (.lpib n)

theorem Target.mem_allTargets (t : Target) : t ∈ allTargets := by
  unfold allTargets
  cases t with
  | reg r => exact List.mem_append_left _ (List.mem_map_of_mem r.mem_allRegs)
  | dup a =>
    apply List.mem_append_right
    cases a with
    | walclk => exact List.mem_cons_self ..
    | lpib n => exact List.mem_cons_of_mem _ (List.mem_map_of_mem (f := fun n => Target.dup (.lpib n)) (mem_allStreams n))

/-- The widths of a transaction. -/
def allWidths : List Width := [.w1, .w2, .w3, .w4]

theorem Width.mem_allWidths (w : Width) : w ∈ allWidths := by cases w <;> decide

namespace Machine

/-! ### Pieces -/

theorem pieces_inside_all : ∀ t ∈ allTargets, ∀ lo : Fin 4, ∀ w ∈ allWidths, lo.val + w.bytes ≤ t.width →
    pieces (t.off + lo.val) w = [⟨some t.register, lo.val, lo.val + w.bytes - 1, 0⟩] := by
  decide +kernel

/-- A transaction inside one register is one piece (R136). -/
theorem pieces_inside {t : Target} {lo : Fin 4} {w : Width} (h : lo.val + w.bytes ≤ t.width) :
    pieces (t.off + lo.val) w = [⟨some t.register, lo.val, lo.val + w.bytes - 1, 0⟩] :=
  pieces_inside_all t t.mem_allTargets lo w w.mem_allWidths h

/-! ### Handlers -/

theorem quiet_setReg (s : State) (r : Reg) (v : Word) : Quiet s (s.setReg r v) :=
  ⟨rfl, rfl, rfl, rfl, rfl, rfl, rfl, rfl, rfl, rfl⟩

theorem quiet_setDma (s : State) (n : Stream) (d : Dma) : Quiet s (s.setDma n d) :=
  ⟨rfl, rfl, rfl, rfl, rfl, rfl, rfl, rfl, rfl, rfl⟩

theorem quiet_kickIfRunning (s : State) : Quiet s (kickIfRunning s) := by
  unfold kickIfRunning
  split
  · exact ⟨rfl, rfl, rfl, rfl, rfl, rfl, rfl, rfl, rfl, rfl⟩
  · exact Quiet.refl s

theorem quiet_wGctl (val : Word) (s : State) : Quiet s (wGctl val s) := by
  unfold wGctl
  dsimp only
  split
  · split
    · exact quiet_setReg ..
    · exact (quiet_setReg ..).trans (quiet_leaveReset _)
  · split
    · exact quiet_ctrlReset s
    · exact Quiet.refl s

theorem quiet_wCorbwp (val : Word) (s : State) : Quiet s (wCorbwp val s) := by
  unfold wCorbwp
  dsimp only
  split
  · exact ((quiet_raise s _).trans (quiet_setReg ..)).trans (quiet_kickIfRunning _)
  · exact (quiet_setReg ..).trans (quiet_kickIfRunning _)

theorem quiet_wCorbrp (val : Word) (s : State) : Quiet s (wCorbrp val s) := by
  unfold wCorbrp
  split
  · split
    · exact ⟨rfl, rfl, rfl, rfl, rfl, rfl, rfl, rfl, rfl, rfl⟩
    · exact ⟨rfl, rfl, rfl, rfl, rfl, rfl, rfl, rfl, rfl, rfl⟩
  · split
    · exact (quiet_setReg ..).trans (quiet_kickIfRunning _)
    · exact Quiet.refl s

theorem quiet_wCorbsize (val : Word) (s : State) : Quiet s (wCorbsize val s) := by
  unfold wCorbsize
  split
  · exact ⟨rfl, rfl, rfl, rfl, rfl, rfl, rfl, rfl, rfl, rfl⟩
  · split
    · exact quiet_raise s _
    · exact ((quiet_setReg ..).trans (quiet_setReg ..)).trans (quiet_setReg ..)

theorem quiet_wRirbwp (val : Word) (s : State) : Quiet s (wRirbwp val s) := by
  unfold wRirbwp
  split
  · split
    · exact ⟨rfl, rfl, rfl, rfl, rfl, rfl, rfl, rfl, rfl, rfl⟩
    · exact ⟨rfl, rfl, rfl, rfl, rfl, rfl, rfl, rfl, rfl, rfl⟩
  · exact Quiet.refl s

theorem quiet_wRirbsize (val : Word) (s : State) : Quiet s (wRirbsize val s) := by
  unfold wRirbsize
  split
  · exact ⟨rfl, rfl, rfl, rfl, rfl, rfl, rfl, rfl, rfl, rfl⟩
  · split
    · exact quiet_raise s _
    · exact (quiet_setReg ..).trans (quiet_setReg ..)

theorem onlyStream_setInReset (n : Stream) (b : Bool) (s : State) : OnlyStream n s (setInReset n b s) :=
  onlyStream_setDma s n _

theorem onlyStream_holdStreamReset (n : Stream) (s : State) : OnlyStream n s (holdStreamReset n s) := by
  unfold holdStreamReset
  split
  · exact (onlyStream_setReg s n .ctl _).trans (onlyStream_setInReset n _ _)
  · exact ((onlyStream_disableReset s n).trans (onlyStream_setReg _ n .ctl _)).trans (onlyStream_setInReset n _ _)

theorem onlyStream_storeSdctl (n : Stream) (new : Word) (s : State) : OnlyStream n s (storeSdctl n new s) :=
  (onlyStream_setInReset n false s).trans (onlyStream_setReg _ n .ctl new)

/-- A write of SDCTL changes nothing outside its stream (R233). -/
theorem onlyStream_wSdctl (n : Stream) (val : Word) (s : State) : OnlyStream n s (wSdctl n val s) := by
  have h := onlyStream_storeSdctl n (val &&& 0xFF001F) s
  unfold wSdctl
  dsimp only
  generalize storeSdctl n (val &&& 0xFF001F) s = u at h ⊢
  split
  · exact onlyStream_holdStreamReset n s
  · split
    · exact h.trans (onlyStream_sdStart n u)
    · split
      · exact h.trans (onlyStream_sdDisable n u)
      · exact h

theorem onlyStream_wSdsts (n : Stream) (val : Word) (s : State) : OnlyStream n s (wSdsts n val s) := by
  unfold wSdsts
  dsimp only
  split
  · exact (onlyStream_setReg s n .sts _).trans (onlyStream_setDma _ n _)
  · exact onlyStream_setReg s n .sts _

theorem quiet_wSdguard (n : Stream) (r : Reg) (val : Word) (s : State) : Quiet s (wSdguard n r val s) := by
  unfold wSdguard
  split
  · exact ⟨rfl, rfl, rfl, rfl, rfl, rfl, rfl, rfl, rfl, rfl⟩
  · exact quiet_setReg ..

/-- No write handler touches guest memory, the wire, the time or the sequence of operations. -/
theorem quiet_writeHandler (r : Reg) (val : Word) (s : State) : Quiet s (writeHandler r val s) := by
  unfold writeHandler
  split
  · exact quiet_setReg ..
  · exact Quiet.refl s
  · exact quiet_setReg ..
  · exact quiet_wGctl val s
  · exact quiet_setReg ..
  · exact quiet_setReg ..
  · exact quiet_setReg ..
  · exact quiet_wCorbwp val s
  · exact quiet_wCorbrp val s
  · exact (quiet_setReg ..).trans (quiet_kickIfRunning _)
  · exact quiet_wCorbsize val s
  · exact quiet_wRirbwp val s
  · exact quiet_setReg ..
  · exact quiet_setReg ..
  · exact quiet_wRirbsize val s
  · exact (onlyStream_wSdctl _ val s).quiet
  · exact (onlyStream_wSdsts _ val s).quiet
  · exact quiet_wSdguard _ r val s

/-! ### Pieces of a write -/

theorem quiet_noteReserved (r : Reg) (x : Word) (s : State) : Quiet s (noteReserved r x s) := by
  unfold noteReserved
  split
  · exact ⟨rfl, rfl, rfl, rfl, rfl, rfl, rfl, rfl, rfl, rfl⟩
  · exact Quiet.refl s

/-- Counting reserved bits changes the counters alone. -/
theorem noteReserved_eq (r : Reg) (x : Word) (s : State) :
    noteReserved r x s = { s with counts := (noteReserved r x s).counts } := by
  unfold noteReserved; split <;> rfl

@[simp] theorem noteReserved_regs (r : Reg) (x : Word) (s : State) : (noteReserved r x s).regs = s.regs := by
  unfold noteReserved; split <;> rfl

@[simp] theorem noteReserved_dma (r : Reg) (x : Word) (s : State) : (noteReserved r x s).dma = s.dma := by
  unfold noteReserved; split <;> rfl

@[simp] theorem noteReserved_dmaOf (r : Reg) (x : Word) (s : State) (n : Stream) :
    (noteReserved r x s).dmaOf n = s.dmaOf n := State.dmaOf_congr (by simp) n

theorem quiet_writePiece (v : Word) (s : State) (p : Piece) : Quiet s (writePiece v s p) := by
  unfold writePiece
  split
  · exact Quiet.refl s
  · split
    · exact ⟨rfl, rfl, rfl, rfl, rfl, rfl, rfl, rfl, rfl, rfl⟩
    · exact (quiet_noteReserved ..).trans (quiet_writeHandler ..)

theorem quiet_writePieces (v : Word) (ps : List Piece) : ∀ s, Quiet s (writePieces v ps s) := by
  unfold writePieces
  induction ps with
  | nil => intro s; exact Quiet.refl s
  | cons p rest ih => intro s; exact (quiet_writePiece v s p).trans (ih _)

theorem quiet_noteUnmapped (ps : List Piece) (s : State) : Quiet s (noteUnmapped ps s) := by
  unfold noteUnmapped
  split
  · exact ⟨rfl, rfl, rfl, rfl, rfl, rfl, rfl, rfl, rfl, rfl⟩
  · exact Quiet.refl s

/-- Counting unmapped bytes changes the counters alone. -/
theorem noteUnmapped_eq (ps : List Piece) (s : State) :
    noteUnmapped ps s = { s with counts := (noteUnmapped ps s).counts } := by
  unfold noteUnmapped; split <;> rfl

/-! ### The end of a write -/

/-- IRQ.EVAL drives the wire to the line formula and does nothing else (R331). -/
theorem irqEval_eq (s : State) :
    irqEval s =
      { s with
        irqLevel := s.regs.line,
        out := { s.out with wire := if s.irqLevel = s.regs.line then s.out.wire else s.regs.line :: s.out.wire } } := by
  unfold irqEval State.driveWire
  split
  · next h => rw [← h]
  · rfl

@[simp] theorem irqEval_regs (s : State) : (irqEval s).regs = s.regs := by rw [irqEval_eq]
@[simp] theorem irqEval_dma (s : State) : (irqEval s).dma = s.dma := by rw [irqEval_eq]
@[simp] theorem irqEval_mem (s : State) : (irqEval s).mem = s.mem := by rw [irqEval_eq]
@[simp] theorem irqEval_cfg (s : State) : (irqEval s).cfg = s.cfg := by rw [irqEval_eq]
@[simp] theorem irqEval_now (s : State) : (irqEval s).now = s.now := by rw [irqEval_eq]
@[simp] theorem irqEval_saved (s : State) : (irqEval s).saved = s.saved := by rw [irqEval_eq]
@[simp] theorem irqEval_pending (s : State) : (irqEval s).pending = s.pending := by rw [irqEval_eq]
@[simp] theorem irqEval_corbKick (s : State) : (irqEval s).corbKick = s.corbKick := by rw [irqEval_eq]
@[simp] theorem irqEval_corbBuf (s : State) : (irqEval s).corbBuf = s.corbBuf := by rw [irqEval_eq]
@[simp] theorem irqEval_rirbBuf (s : State) : (irqEval s).rirbBuf = s.rirbBuf := by rw [irqEval_eq]
@[simp] theorem irqEval_respPending (s : State) : (irqEval s).respPending = s.respPending := by rw [irqEval_eq]
@[simp] theorem irqEval_counts (s : State) : (irqEval s).counts = s.counts := by rw [irqEval_eq]
@[simp] theorem irqEval_wcEpoch (s : State) : (irqEval s).wcEpoch = s.wcEpoch := by rw [irqEval_eq]
@[simp] theorem irqEval_oracle (s : State) : (irqEval s).oracle = s.oracle := by rw [irqEval_eq]
@[simp] theorem irqEval_irqLevel (s : State) : (irqEval s).irqLevel = s.regs.line := by rw [irqEval_eq]
@[simp] theorem irqEval_dmaOf (s : State) (n : Stream) : (irqEval s).dmaOf n = s.dmaOf n :=
  State.dmaOf_congr (by simp) n

/-- A write inside one register is one handler call, unless the controller is held in reset (R135, R159). -/
theorem hostWrite_inside {t : Target} {lo : Fin 4} {w : Width} (h : lo.val + w.bytes ≤ t.width) (v : Word) (s : State) :
    hostWrite (t.off + lo.val) w v s =
      endWrite (writePiece v s ⟨some t.register, lo.val, lo.val + w.bytes - 1, 0⟩) := by
  unfold hostWrite
  rw [pieces_inside h]
  rfl

/-- The state a write inside one register reaches before its end (R135). -/
theorem writePiece_reg {s : State} {r : Reg} (h : s.regs.crst = true ∨ r = .glob .gctl) (v : Word) (lo hi tlo : Nat) :
    writePiece v s ⟨some r, lo, hi, tlo⟩ =
      writeHandler r (merged (s.regs.rd r) v ⟨some r, lo, hi, tlo⟩)
        (noteReserved r (laneValue v ⟨some r, lo, hi, tlo⟩) s) := by
  unfold writePiece
  dsimp only
  rw [if_neg]
  · rfl
  · rcases h with h | h <;> simp [h]

/-- A write to a register other than GCTL while the controller is held in reset is counted and dropped. -/
theorem writePiece_held {s : State} {r : Reg} (h : s.regs.crst = false) (hr : r ≠ .glob .gctl) (v : Word)
    (lo hi tlo : Nat) :
    writePiece v s ⟨some r, lo, hi, tlo⟩ = (s.raise .guestProtocolViolation).countBlockedInReset := by
  unfold writePiece
  dsimp only
  rw [if_pos]
  simp [h, hr]

end Machine
end Sys2Proof
end

