-- ==== Sys2Proof/Laws/Handlers.lean ====
section
/-! SUPPORT. What each handler with more than one effect does, said once as an equation, up to the diagnostic
counters (40_mmio_dispatch.md R138); and what one piece of a write that covers whole low bytes hands to its
handler (R135, R136). -/

namespace Sys2Proof.Machine

/-! ### Pieces -/

theorem getLsbD_masked (x m : Word) (k : Nat) (h : m.getLsbD k = true) : (x &&& m).getLsbD k = x.getLsbD k := by
  rw [BitVec.getLsbD_and, h, Bool.and_true]

/-- Under a mask inside the bytes `0 .. hi` of a register, the merged value of a piece that covers these bytes is the
written value from byte `tlo` on (R136). -/
theorem merged_low (x v : Word) (r : Option Reg) (hi tlo : Nat) (m : Word)
    (hm : ∀ k < 32, m.getLsbD k = true → k < 8 * (hi + 1)) :
    merged x v ⟨r, 0, hi, tlo⟩ &&& m = (v >>> (8 * tlo)) &&& m := by
  apply BitVec.eq_of_getLsbD_eq
  intro k hk
  rw [BitVec.getLsbD_and, BitVec.getLsbD_and]
  cases hmk : m.getLsbD k with
  | false => simp
  | true =>
    have hlt := hm k hk hmk
    simp only [Bool.and_true]
    unfold merged lane laneValue
    dsimp only
    have e : hi - 0 + 1 = hi + 1 := by omega
    rw [e, Nat.mul_zero, Nat.pow_zero, Nat.mul_one, Nat.mul_one, BitVec.getLsbD_or, BitVec.getLsbD_and,
      BitVec.getLsbD_not, BitVec.getLsbD_ofNat, BitVec.getLsbD_ofNat, BitVec.getLsbD_ushiftRight,
      Nat.testBit_mod_two_pow, Nat.testBit_two_pow_sub_one, Nat.testBit_div_two_pow]
    simp only [hk, hlt, decide_true, Bool.true_and, Bool.not_true, Bool.and_false, Bool.false_or]
    unfold BitVec.getLsbD
    rw [Nat.add_comm]

/-- Out of reset a piece of a write is one call of its register's handler, up to the counters (R135). -/
theorem writePiece_handler (v : Word) (s : State) (r : Reg) (lo hi tlo : Nat) (h : s.regs.crst = true) :
    ∃ c, c.streams = s.counts.streams ∧
      writePiece v s ⟨some r, lo, hi, tlo⟩ =
        writeHandler r (merged (s.regs.rd r) v ⟨some r, lo, hi, tlo⟩) { s with counts := c } := by
  refine ⟨(noteReserved r (laneValue v ⟨some r, lo, hi, tlo⟩) s).counts, ?_, ?_⟩
  · unfold noteReserved
    split <;> rfl
  · rw [writePiece_reg (.inl h), ← noteReserved_eq]

theorem crst_setReg (s : State) {r : Reg} (v : Word) (h : r ≠ .glob .gctl) : (s.setReg r v).regs.crst = s.regs.crst := by
  unfold RegFile.crst
  rw [State.setReg_regs, RegFile.rd_put_of_ne _ h.symm]

/-! ### The ring registers (42_corb_rirb.md section 2) -/

theorem kickIfRunning_eq (s : State) : kickIfRunning s = { s with corbKick := s.corbKick || s.regs.corbRun } := by
  unfold kickIfRunning
  cases h : s.regs.corbRun <;> cases hk : s.corbKick <;> simp [← hk]

theorem corbRun_setReg (s : State) {r : Reg} (h : Reg.glob .corbctl ≠ r) (v : Word) :
    (s.setReg r v).regs.corbRun = s.regs.corbRun := by
  unfold RegFile.corbRun
  rw [State.setReg_regs, RegFile.rd_put_of_ne _ h]

theorem wCorbctl_eq (val : Word) (s : State) :
    wCorbctl val s = { s with corbKick := s.corbKick || val.getLsbD 1 }.setReg (.glob .corbctl) (val &&& 0x03) := by
  unfold wCorbctl
  rw [kickIfRunning_eq]
  have h : (s.setReg (.glob .corbctl) (val &&& 0x03)).regs.corbRun = val.getLsbD 1 := by
    unfold RegFile.corbRun
    rw [State.setReg_regs, RegFile.rd_put_same, getLsbD_masked _ _ 1 (by decide), getLsbD_masked _ _ 1 (by decide)]
  rw [h]
  rfl

theorem wCorbwp_eq (val : Word) (s : State) :
    ∃ c, wCorbwp val s = { s with counts := c, corbKick := s.corbKick || s.regs.corbRun }.setReg (.glob .corbwp)
      (BitVec.ofNat 32 ((val &&& 0xFF).toNat % s.regs.corbCap)) := by
  unfold wCorbwp
  dsimp only
  split <;> exact ⟨_, by rw [kickIfRunning_eq, corbRun_setReg _ (by decide)]; rfl⟩

theorem wCorbrp_eq (val : Word) (s : State) :
    ∃ c, wCorbrp val s =
      if val.getLsbD 15 then
        if s.regs.corbRun then { s with counts := c }
        else { s with counts := c, corbBuf := Vector.replicate 256 0 }.setReg (.glob .corbrp) 0x8000
      else if s.regs.corbRst then
        { s with counts := c, corbKick := s.corbKick || s.regs.corbRun }.setReg (.glob .corbrp)
          (s.reg (.glob .corbrp) &&& 0x00FF)
      else { s with counts := c } := by
  unfold wCorbrp
  split
  · split
    · exact ⟨_, rfl⟩
    · exact ⟨s.counts, rfl⟩
  · split
    · exact ⟨s.counts, by rw [kickIfRunning_eq, corbRun_setReg _ (by decide)]; rfl⟩
    · exact ⟨s.counts, rfl⟩

theorem wRirbwp_eq (val : Word) (s : State) :
    ∃ c, wRirbwp val s =
      if val.getLsbD 15 && !s.regs.rirbDmaen then
        { s with counts := c, rirbBuf := Vector.replicate 256 0, respPending := 0 }.setReg (.glob .rirbwp) 0
      else { s with counts := c } := by
  unfold wRirbwp
  cases val.getLsbD 15 <;> cases s.regs.rirbDmaen
  · exact ⟨s.counts, rfl⟩
  · exact ⟨s.counts, rfl⟩
  · exact ⟨s.counts, rfl⟩
  · exact ⟨_, rfl⟩

/-- The capacity that a stored size code stands for (R42, R48). -/
theorem capacity_stored {val : Word} (h : ¬ val &&& 3 = 3) {f : RegFile} {r : Reg}
    (hr : r = .glob .corbsize ∨ r = .glob .rirbsize) (hf : f.rd r = (0x70 ||| (val &&& 3)) &&& r.fullMask) :
    capacity ((f.rd r).extractLsb' 0 2) = if val &&& 3 = 0 then 2 else if val &&& 3 = 1 then 16 else 256 := by
  have hm : r.fullMask = 0xFF#32 := by rcases hr with rfl | rfl <;> rfl
  rw [hf, hm]
  have h2 : (val &&& 3) = (val.extractLsb' 0 2).setWidth 32 := by
    apply BitVec.eq_of_getLsbD_eq
    intro k hk
    have a : ∀ k < 32, (3#32).getLsbD k = decide (k < 2) := by decide
    have : (3 : Word).getLsbD k = decide (k < 2) := a k hk
    rw [BitVec.getLsbD_and, this]
    simp [hk]
    rw [Bool.and_comm]
  rw [h2] at h ⊢
  generalize val.extractLsb' 0 2 = x at h ⊢
  revert x
  decide

theorem wCorbsize_eq (val : Word) (s : State) :
    let cap := if val &&& 3 = 0 then 2 else if val &&& 3 = 1 then 16 else 256
    ∃ c, wCorbsize val s =
      if s.regs.corbRun || decide (val &&& 3 = 3) then { s with counts := c }
      else
        (({ s with counts := c }.setReg (.glob .corbsize) (0x70 ||| (val &&& 3))).setReg (.glob .corbwp)
          (BitVec.ofNat 32 (s.regs.corbWp % cap))).setReg (.glob .corbrp)
          ((s.reg (.glob .corbrp) &&& 0x8000) ||| BitVec.ofNat 32 (s.regs.corbRp % cap)) := by
  intro cap
  unfold wCorbsize
  by_cases hr : s.regs.corbRun = true
  · exact ⟨_, by rw [if_pos hr]; simp only [hr, Bool.true_or, if_true]; rfl⟩
  · rw [if_neg hr]
    by_cases h3 : val &&& 3 = 3
    · exact ⟨_, by rw [if_pos h3]; simp only [h3, decide_true, Bool.or_true, if_true]; rfl⟩
    · rw [if_neg h3]
      refine ⟨s.counts, ?_⟩
      rw [if_neg (by simp [hr]; exact h3)]
      have e : ∀ u : State, u.regs.rd (.glob .corbsize) = (0x70 ||| (val &&& 3)) &&& (Reg.glob .corbsize).fullMask →
          u.regs.corbCap = cap := fun u hu => capacity_stored h3 (.inl rfl) hu
      dsimp only
      rw [e _ (by rw [State.setReg_regs, RegFile.rd_put_same]),
        e _ (by rw [State.setReg_regs, RegFile.rd_put_of_ne _ (by decide), State.setReg_regs, RegFile.rd_put_same])]
      simp only [RegFile.corbWp, RegFile.corbRp, State.reg_eq, State.setReg_regs,
        RegFile.rd_put_of_ne _ (show Reg.glob GReg.corbwp ≠ .glob .corbsize by decide),
        RegFile.rd_put_of_ne _ (show Reg.glob GReg.corbrp ≠ .glob .corbsize by decide),
        RegFile.rd_put_of_ne _ (show Reg.glob GReg.corbrp ≠ .glob .corbwp by decide)]

theorem wRirbsize_eq (val : Word) (s : State) :
    let cap := if val &&& 3 = 0 then 2 else if val &&& 3 = 1 then 16 else 256
    ∃ c, wRirbsize val s =
      if s.regs.rirbDmaen || decide (val &&& 3 = 3) then { s with counts := c }
      else
        ({ s with counts := c }.setReg (.glob .rirbsize) (0x70 ||| (val &&& 3))).setReg (.glob .rirbwp)
          (BitVec.ofNat 32 (s.regs.rirbWp % cap)) := by
  intro cap
  unfold wRirbsize
  by_cases hr : s.regs.rirbDmaen = true
  · exact ⟨_, by rw [if_pos hr]; simp only [hr, Bool.true_or, if_true]; rfl⟩
  · rw [if_neg hr]
    by_cases h3 : val &&& 3 = 3
    · exact ⟨_, by rw [if_pos h3]; simp only [h3, decide_true, Bool.or_true, if_true]; rfl⟩
    · rw [if_neg h3]
      refine ⟨s.counts, ?_⟩
      rw [if_neg (by simp [hr]; exact h3)]
      have e : ∀ u : State, u.regs.rd (.glob .rirbsize) = (0x70 ||| (val &&& 3)) &&& (Reg.glob .rirbsize).fullMask →
          u.regs.rirbCap = cap := fun u hu => capacity_stored h3 (.inr rfl) hu
      dsimp only
      rw [e _ (by rw [State.setReg_regs, RegFile.rd_put_same])]
      simp only [RegFile.rirbWp, State.setReg_regs,
        RegFile.rd_put_of_ne _ (show Reg.glob GReg.rirbwp ≠ .glob .rirbsize by decide)]

/-! ### The stream registers (43_stream_registers.md) -/

theorem setDma_self (s : State) (n : Stream) : s.setDma n (s.dmaOf n) = s := by
  unfold State.setDma
  congr 1
  apply State.dma_ext
  intro m
  exact (State.dmaOf_setDma s n m _).trans (by split <;> simp_all [State.dmaOf])

theorem setDma_twice (s : State) (n : Stream) (d d' : Dma) : (s.setDma n d).setDma n d' = s.setDma n d' := by
  unfold State.setDma
  dsimp only
  congr 1
  rw [Vector.set_set]

/-- W_SDSTS clears the written flags and, with BCIS, the queue of pending interrupts (R235). -/
theorem wSdsts_eq (n : Stream) (val : Word) (s : State) :
    wSdsts n val s =
      (s.setReg (.str .sts n) (s.reg (.str .sts n) &&& ~~~(val &&& 0x1C))).setDma n
        { s.dmaOf n with pendingIrq := if val.getLsbD 2 then 0 else (s.dmaOf n).pendingIrq } := by
  unfold wSdsts w1c causeMask
  dsimp only
  cases val.getLsbD 2 with
  | true =>
    rw [if_pos rfl, if_pos rfl]
    rfl
  | false =>
    rw [if_neg (by simp), if_neg (by simp)]
    exact (setDma_self (s.setReg (.str .sts n) (s.reg (.str .sts n) &&& ~~~(val &&& (0x1C : Word)))) n).symm

end Sys2Proof.Machine
end

