-- ==== Sys2Proof/Laws/Tick.lean ====
section
/-! SUPPORT. What a TICK can do, said once: which of its three ends it takes, and what each leaves
(44_stream_dma.md R272 to R281). -/

namespace Sys2Proof.Machine

/-- A TICK that has a next state is enabled and is skipped, done or aborted (R272, R273, R276). -/
theorem tick_next {n : Stream} {s t : State} (h : tick n s = .next t) :
    tickEnabled s n = true ∧ ∃ st last, (s.dmaOf n).sched[(s.dmaOf n).schedIdx]? = some st ∧
      (s.dmaOf n).bdl[st.first + st.count - 1]? = some last ∧ s.regs.cbl n ≠ 0 ∧
      ((skipTick s n st = true ∧ t = tickSkipped n st s) ∨
       (skipTick s n st = false ∧ ∃ e o mem buf, transfer s n st.bytes = .done e o mem buf ∧
          t = tickDone n st last.ioc e o mem buf s) ∨
       (skipTick s n st = false ∧ ∃ mem, transfer s n st.bytes = .failed mem ∧ t = tickAborted n st mem s)) := by
  unfold tick at h
  cases he : tickEnabled s n with
  | false => rw [he] at h; cases h
  | true =>
    rw [he, if_pos rfl] at h
    refine ⟨rfl, ?_⟩
    cases hs : (s.dmaOf n).sched[(s.dmaOf n).schedIdx]? with
    | none => rw [hs] at h; cases h
    | some st =>
      rw [hs] at h
      dsimp only at h
      cases hb : (s.dmaOf n).bdl[st.first + st.count - 1]? with
      | none => rw [hb] at h; cases h
      | some last =>
        rw [hb] at h
        dsimp only at h
        by_cases hc : s.regs.cbl n = 0
        · rw [if_pos hc] at h; cases h
        · rw [if_neg hc] at h
          refine ⟨st, last, rfl, hb, hc, ?_⟩
          unfold tickRun at h
          cases hk : skipTick s n st with
          | true => rw [hk, if_pos rfl] at h; cases h; exact .inl ⟨rfl, rfl⟩
          | false =>
            rw [hk, if_neg (by decide)] at h
            cases hx : transfer s n st.bytes with
            | done e o mem buf => rw [hx] at h; cases h; exact .inr (.inl ⟨rfl, e, o, mem, buf, rfl, rfl⟩)
            | failed mem => rw [hx] at h; cases h; exact .inr (.inr ⟨rfl, mem, rfl, rfl⟩)
            | exhausted => rw [hx] at h; cases h

/-! ### The frame of a TICK -/

/-- From `s` to `t` only stream `n`'s status, position and engine changed, the counters, the bytes of
backed guest memory, and the wire. -/
structure TickOnly (n : Stream) (s t : State) : Prop where
  cfg : t.cfg = s.cfg
  wcEpoch : t.wcEpoch = s.wcEpoch
  now : t.now = s.now
  saved : t.saved = s.saved
  pending : t.pending = s.pending
  oracle : t.oracle = s.oracle
  corbBuf : t.corbBuf = s.corbBuf
  rirbBuf : t.rirbBuf = s.rirbBuf
  respPending : t.respPending = s.respPending
  corbKick : t.corbKick = s.corbKick
  addrs : t.mem.addrs = s.mem.addrs
  readData : t.out.readData = s.out.readData
  sinkMoved : t.out.sinkMoved = s.out.sinkMoved
  sinkCalls : t.out.sinkCalls = s.out.sinkCalls
  rendered : t.out.rendered = s.out.rendered
  regs : ∀ r, r ≠ .str .sts n → r ≠ .str .lpib n → t.regs.rd r = s.regs.rd r
  dma : ∀ m, m ≠ n → t.dmaOf m = s.dmaOf m

theorem TickOnly.refl (n : Stream) (s : State) : TickOnly n s s :=
  ⟨rfl, rfl, rfl, rfl, rfl, rfl, rfl, rfl, rfl, rfl, rfl, rfl, rfl, rfl, rfl, fun _ _ _ => rfl, fun _ _ => rfl⟩

theorem TickOnly.trans {n : Stream} {s t u : State} (h : TickOnly n s t) (k : TickOnly n t u) : TickOnly n s u :=
  ⟨k.cfg.trans h.cfg, k.wcEpoch.trans h.wcEpoch, k.now.trans h.now, k.saved.trans h.saved,
   k.pending.trans h.pending, k.oracle.trans h.oracle, k.corbBuf.trans h.corbBuf, k.rirbBuf.trans h.rirbBuf,
   k.respPending.trans h.respPending, k.corbKick.trans h.corbKick, k.addrs.trans h.addrs,
   k.readData.trans h.readData, k.sinkMoved.trans h.sinkMoved, k.sinkCalls.trans h.sinkCalls,
   k.rendered.trans h.rendered, fun r a b => (k.regs r a b).trans (h.regs r a b),
   fun m a => (k.dma m a).trans (h.dma m a)⟩

theorem tickOnly_irqEval (n : Stream) (s : State) : TickOnly n s (irqEval s) := by
  rw [irqEval_eq]
  exact ⟨rfl, rfl, rfl, rfl, rfl, rfl, rfl, rfl, rfl, rfl, rfl, rfl, rfl, rfl, rfl, fun _ _ _ => rfl, fun _ _ => rfl⟩

theorem tickOnly_setDma (n : Stream) (s : State) (d : Dma) : TickOnly n s (s.setDma n d) :=
  ⟨rfl, rfl, rfl, rfl, rfl, rfl, rfl, rfl, rfl, rfl, rfl, rfl, rfl, rfl, rfl, fun _ _ _ => rfl,
   fun m hm => by rw [State.dmaOf_setDma, if_neg hm]⟩

theorem tickOnly_setSts (n : Stream) (s : State) (v : Word) : TickOnly n s (s.setReg (.str .sts n) v) :=
  ⟨rfl, rfl, rfl, rfl, rfl, rfl, rfl, rfl, rfl, rfl, rfl, rfl, rfl, rfl, rfl,
   fun r h _ => by rw [State.setReg_regs, RegFile.rd_put_of_ne _ h], fun _ _ => rfl⟩

theorem tickOnly_setLpib (n : Stream) (s : State) (v : Word) : TickOnly n s (s.setReg (.str .lpib n) v) :=
  ⟨rfl, rfl, rfl, rfl, rfl, rfl, rfl, rfl, rfl, rfl, rfl, rfl, rfl, rfl, rfl,
   fun r _ h => by rw [State.setReg_regs, RegFile.rd_put_of_ne _ h], fun _ _ => rfl⟩

theorem tickOnly_counts (n : Stream) (s : State) (c : Counts) : TickOnly n s { s with counts := c } :=
  ⟨rfl, rfl, rfl, rfl, rfl, rfl, rfl, rfl, rfl, rfl, rfl, rfl, rfl, rfl, rfl, fun _ _ _ => rfl, fun _ _ => rfl⟩

theorem tickOnly_mem (n : Stream) (s : State) {m : Memory} (h : m.addrs = s.mem.addrs) :
    TickOnly n s { s with mem := m } :=
  ⟨rfl, rfl, rfl, rfl, rfl, rfl, rfl, rfl, rfl, rfl, h, rfl, rfl, rfl, rfl, fun _ _ _ => rfl, fun _ _ => rfl⟩

theorem tickOnly_retryLater (n : Stream) (st : Step) (s : State) : TickOnly n s (retryLater n st s) :=
  tickOnly_setDma n s _

theorem tickOnly_rearmTimer (n : Stream) (s : State) : TickOnly n s (rearmTimer n s) := tickOnly_setDma n s _

theorem tickOnly_countSkipped (n : Stream) (s : State) : TickOnly n s (s.countSkipped n) := tickOnly_counts n s _

theorem tickOnly_countFlowError (n : Stream) (s : State) : TickOnly n s (s.countFlowError n) := tickOnly_counts n s _

theorem tickOnly_raise (n : Stream) (s : State) (c : ErrorClass) : TickOnly n s (s.raise c) := tickOnly_counts n s _

theorem tickOnly_orSts (n : Stream) (s : State) (v : Word) : TickOnly n s (s.orReg (.str .sts n) v) :=
  tickOnly_setSts n s _

theorem tickOnly_tickSkipped (n : Stream) (st : Step) (s : State) : TickOnly n s (tickSkipped n st s) :=
  ((tickOnly_countSkipped n s).trans (tickOnly_retryLater n st _)).trans (tickOnly_irqEval n _)

theorem tickOnly_tickAborted (n : Stream) (st : Step) {m : Memory} (s : State) (h : m.addrs = s.mem.addrs) :
    TickOnly n s (tickAborted n st m s) :=
  ((((tickOnly_mem n s h).trans (tickOnly_raise n _ _)).trans (tickOnly_orSts n _ _)).trans
    (tickOnly_retryLater n st _)).trans (tickOnly_irqEval n _)

theorem tickOnly_commitTransfer (n : Stream) (b e o : Nat) {m : Memory} (buf : List Byte) (s : State)
    (h : m.addrs = s.mem.addrs) : TickOnly n s (commitTransfer n b e o m buf s) := by
  unfold commitTransfer
  dsimp only
  split
  · exact ((tickOnly_countFlowError n s).trans (tickOnly_mem n _ h)).trans (tickOnly_setDma n _ _)
  · exact (tickOnly_mem n s h).trans (tickOnly_setDma n _ _)

theorem tickOnly_advanceLpib (n : Stream) (b : Nat) (s : State) : TickOnly n s (advanceLpib n b s) :=
  tickOnly_setLpib n s _

theorem tickOnly_advanceSchedule (n : Stream) (st : Step) (ioc : Bool) (s : State) :
    TickOnly n s (advanceSchedule n st ioc s) := by
  unfold advanceSchedule
  dsimp only
  split
  · unfold finishStep
    dsimp only
    split
    · exact (tickOnly_setDma n s _).trans (tickOnly_setSts n _ _)
    · exact tickOnly_setDma n s _
  · exact tickOnly_setDma n s _

theorem tickOnly_tickDone (n : Stream) (st : Step) (ioc : Bool) (e o : Nat) {m : Memory} (buf : List Byte) (s : State)
    (h : m.addrs = s.mem.addrs) : TickOnly n s (tickDone n st ioc e o m buf s) :=
  ((((tickOnly_commitTransfer n st.bytes e o buf s h).trans (tickOnly_advanceLpib n st.bytes _)).trans
    (tickOnly_advanceSchedule n st ioc _)).trans (tickOnly_rearmTimer n _)).trans (tickOnly_irqEval n _)

/-! ### The transfer loop -/

/-- The loop backs and unbacks no address (R274). -/
theorem xferLoop_addrs (bdl : List Bdle) (cnt : Nat) (input : Bool) (a : List Nat) :
    ∀ (fuel : Nat) (mem : Memory) (e o rem : Nat) (src buf : List Byte), mem.addrs = a →
      (∀ e' o' m b, xferLoop bdl cnt input fuel mem e o rem src buf = .done e' o' m b → m.addrs = a) ∧
      (∀ m, xferLoop bdl cnt input fuel mem e o rem src buf = .failed m → m.addrs = a) := by
  intro fuel
  induction fuel with
  | zero =>
    intro mem e o rem src buf hm
    unfold xferLoop
    split
    · exact ⟨fun _ _ _ _ h => by cases h; exact hm, fun _ h => by cases h⟩
    · exact ⟨fun _ _ _ _ h => (by cases h), fun _ h => by cases h⟩
  | succ fuel ih =>
    intro mem e o rem src buf hm
    unfold xferLoop
    split
    · exact ⟨fun _ _ _ _ h => by cases h; exact hm, fun _ h => by cases h⟩
    · split
      · exact ⟨fun _ _ _ _ h => (by cases h), fun _ h => by cases h⟩
      · next d _ =>
        split
        · exact ih _ _ _ _ _ _ hm
        · dsimp only
          split
          · split
            · exact ⟨fun _ _ _ _ h => (by cases h), fun _ h => by cases h; exact hm⟩
            · next mem' hw => exact ih _ _ _ _ _ _ ((Memory.addrs_write hw).trans hm)
          · split
            · exact ⟨fun _ _ _ _ h => (by cases h), fun _ h => by cases h; exact hm⟩
            · exact ih _ _ _ _ _ _ hm

theorem transfer_done_addrs {s : State} {n : Stream} {b e o : Nat} {m : Memory} {buf : List Byte}
    (h : transfer s n b = .done e o m buf) : m.addrs = s.mem.addrs :=
  (xferLoop_addrs _ _ _ s.mem.addrs _ s.mem _ _ _ _ _ rfl).1 _ _ _ _ h

theorem transfer_failed_addrs {s : State} {n : Stream} {b : Nat} {m : Memory}
    (h : transfer s n b = .failed m) : m.addrs = s.mem.addrs :=
  (xferLoop_addrs _ _ _ s.mem.addrs _ s.mem _ _ _ _ _ rfl).2 _ h

/-- A TICK changes nothing outside its stream's status, position and engine, guest bytes, counters and the
wire (R272), and ends with the wire at the line formula (R332). -/
theorem tick_only {n : Stream} {s t : State} (h : tick n s = .next t) : TickOnly n s t ∧ t.irqLevel = t.regs.line := by
  obtain ⟨_, st, last, _, _, _, ⟨_, rfl⟩ | ⟨_, e, o, m, buf, hx, rfl⟩ | ⟨_, m, hx, rfl⟩⟩ := tick_next h
  · exact ⟨tickOnly_tickSkipped n st s, by unfold tickSkipped; rw [irqEval_irqLevel, irqEval_regs]⟩
  · exact ⟨tickOnly_tickDone n st _ e o buf s (transfer_done_addrs hx),
      by unfold tickDone; rw [irqEval_irqLevel, irqEval_regs]⟩
  · exact ⟨tickOnly_tickAborted n st s (transfer_failed_addrs hx),
      by unfold tickAborted; rw [irqEval_irqLevel, irqEval_regs]⟩

end Sys2Proof.Machine
end

