-- ==== Sys2Proof/Laws/Host.lean ====
section
/-! SUPPORT. What the other operations can do, said once each: a bus read, SINK, SAVE, RESTORE and
POWEROFF. -/

namespace Sys2Proof.Machine

/-! ### The wall clock (R340) -/

/-- WALCLK.EVAL writes no register but WALCLK and nothing else. -/
theorem walclkEval_eq (s : State) : walclkEval s = { s with regs := (walclkEval s).regs } := by
  unfold walclkEval
  split <;> rfl

theorem walclkEval_rd {s : State} {r : Reg} (h : r ≠ .glob .walclk) : (walclkEval s).regs.rd r = s.regs.rd r := by
  unfold walclkEval
  split
  · rfl
  · dsimp only
    rw [State.setReg_regs, RegFile.rd_put_of_ne _ h]

/-- With no engine armed the wall clock is held (R340). -/
theorem walclkEval_idle {s : State} (h : ∀ n, (s.dmaOf n).running = false) : walclkEval s = s := by
  unfold walclkEval runningLasts
  rw [List.filter_eq_nil_iff.mpr (fun n _ => by simp [h n])]
  rfl

/-! ### A bus read (R131) -/

/-- The value of a register in a read transaction, from the state at its start (R132, R141, R142). -/
def shown (s : State) (r : Reg) : Word := (readValue r s).1 &&& r.rmask

theorem shown_eq (s : State) (r : Reg) : shown s r = guestValue s r := by
  unfold shown guestValue
  cases r with
  | glob g => cases g <;> rfl
  | str k n => cases k <;> rfl

theorem readValue_walclk (s : State) :
    readValue (.glob .walclk) s = ((walclkEval s).regs.rd (.glob .walclk), walclkEval s) := rfl

theorem readValue_intsts (s : State) : readValue (.glob .intsts) s = (s.regs.intsts, s) := rfl

theorem readValue_plain {r : Reg} (h1 : r ≠ .glob .walclk) (h2 : r ≠ .glob .intsts) (s : State) :
    readValue r s = (s.regs.rd r, s) := by
  have : r.desc.rd = .plain := by
    cases r with
    | glob g => cases g <;> first | rfl | exact absurd rfl h1 | exact absurd rfl h2
    | str k n => cases k <;> rfl
  unfold readValue
  rw [this]
  rfl

theorem RegFile.sis_congr {f g : RegFile} (h : ∀ r, r ≠ .glob .walclk → f.rd r = g.rd r) (n : Stream) :
    f.sis n = g.sis n := by
  unfold RegFile.sis
  rw [h _ (by simp), h _ (by simp)]

theorem RegFile.cis_congr {f g : RegFile} (h : ∀ r, r ≠ .glob .walclk → f.rd r = g.rd r) : f.cis = g.cis := by
  unfold RegFile.cis RegFile.rintfl RegFile.rintctl
  rw [h _ (by decide), h _ (by decide), h _ (by decide), h _ (by decide)]

/-- The aggregated status does not depend on the wall clock (R328). -/
theorem RegFile.intsts_congr {f g : RegFile} (h : ∀ r, r ≠ .glob .walclk → f.rd r = g.rd r) : f.intsts = g.intsts := by
  have h1 : f.cis = g.cis := RegFile.cis_congr h
  have h2 : f.sis = g.sis := funext fun n => RegFile.sis_congr h n
  unfold RegFile.intsts RegFile.gis RegFile.sisBits
  rw [h1, h2]

/-- The line formula does not depend on the wall clock (R330). -/
theorem RegFile.line_congr {f g : RegFile} (h : ∀ r, r ≠ .glob .walclk → f.rd r = g.rd r) : f.line = g.line := by
  have h1 : f.cis = g.cis := RegFile.cis_congr h
  have h2 : f.sis = g.sis := funext fun n => RegFile.sis_congr h n
  have h3 : f.sie = g.sie := by funext n; unfold RegFile.sie; rw [h _ (by decide)]
  unfold RegFile.line RegFile.gie RegFile.cie
  rw [h1, h2, h3, h _ (by decide)]

theorem coversClock_succ (off k : Nat) :
    coversClock off (k + 1) =
      (coversClock off k || (match decodeByte (off + k) with | some (r, _) => decide (r = .glob .walclk) | none => false)) := by
  unfold coversClock
  rw [List.range_succ, List.any_append, List.any_cons, List.any_nil, Bool.or_false]
  all_goals rfl

/-- The state a read leaves before its result is returned: WALCLK is brought up to date if a byte of it is
covered (R78). -/
def readState (off k : Nat) (s : State) : State := if coversClock off k then walclkEval s else s

theorem byteLane_or_shift (x : Word) (b : Byte) (i j : Nat) (hi : i < 4) (hj : j < 4) :
    byteLane (x ||| (b.setWidth 32 <<< (8 * i))) j = if j = i then byteLane x j ||| b else byteLane x j := by
  unfold byteLane
  apply BitVec.eq_of_getLsbD_eq
  intro k hk
  by_cases h : j = i
  · subst h
    rw [if_pos rfl]
    simp only [BitVec.getLsbD_extractLsb', BitVec.getLsbD_or, BitVec.getLsbD_shiftLeft, BitVec.getLsbD_setWidth]
    have e1 : 8 * j + k - 8 * j = k := by omega
    have e2 : 8 * j + k < 32 := by omega
    have e3 : ¬ 8 * j + k < 8 * j := by omega
    have e4 : k < 32 := by omega
    simp [e1, e2, e4, hk]
  · rw [if_neg h]
    simp only [BitVec.getLsbD_extractLsb', BitVec.getLsbD_or, BitVec.getLsbD_shiftLeft, BitVec.getLsbD_setWidth]
    rcases Nat.lt_or_gt_of_ne h with hlt | hgt
    · have : 8 * j + k < 8 * i := by omega
      simp [this]
    · have h8 : 8 ≤ 8 * j + k - 8 * i := by omega
      have : b.getLsbD (8 * j + k - 8 * i) = false := BitVec.getLsbD_of_ge _ _ h8
      simp [this]

theorem byteLane_zero (j : Nat) : byteLane 0 j = 0 := by
  unfold byteLane
  apply BitVec.eq_of_getLsbD_eq
  intro k hk
  simp

/-- What the loop of R131 has after its first `k` bytes. -/
structure ReadSpec (off k : Nat) (s : State) (acc : ReadAcc) : Prop where
  st : acc.st = readState off k s
  done : ∀ r v, acc.done.lookup r = some v → v = shown s r
  clock : (acc.done.lookup (.glob .walclk)).isSome = coversClock off k
  bytes : ∀ j, j < 4 → byteLane acc.result j =
    if j < k then (match decodeByte (off + j) with | some (r, i) => byteLane (shown s r) i | none => 0) else 0

theorem readValue_readState {off k : Nat} {s : State} {r : Reg} (h : r = .glob .walclk → coversClock off k = false) :
    (readValue r (readState off k s)).1 = (readValue r s).1 := by
  by_cases hw : r = .glob .walclk
  · unfold readState; rw [h hw]; rfl
  · unfold readState
    split
    · by_cases hi : r = .glob .intsts
      · subst hi
        rw [readValue_intsts, readValue_intsts]
        exact RegFile.intsts_congr fun r hr => walclkEval_rd hr
      · rw [readValue_plain hw hi, readValue_plain hw hi]
        exact walclkEval_rd hw
    · rfl

theorem readValue_state {r : Reg} (h : r ≠ .glob .walclk) (s : State) : (readValue r s).2 = s := by
  by_cases hi : r = .glob .intsts
  · subst hi; rfl
  · rw [readValue_plain h hi]

theorem readOnce_fst (r : Reg) (acc : ReadAcc) :
    (readOnce r acc).1 = match acc.done.lookup r with | some v => v | none => (readValue r acc.st).1 &&& r.rmask := by
  unfold readOnce
  cases acc.done.lookup r <;> rfl

theorem readOnce_result (r : Reg) (acc : ReadAcc) : (readOnce r acc).2.result = acc.result := by
  unfold readOnce
  cases acc.done.lookup r <;> rfl

theorem readSpec_readOnce {off k : Nat} {s : State} {acc : ReadAcc} (h : ReadSpec off k s acc) {r : Reg}
    {i : Nat} (hd : decodeByte (off + k) = some (r, i)) :
    (readOnce r acc).1 = shown s r ∧ (readOnce r acc).2.st = readState off (k + 1) s ∧
    (∀ r' v, (readOnce r acc).2.done.lookup r' = some v → v = shown s r') ∧
    ((readOnce r acc).2.done.lookup (.glob .walclk)).isSome = coversClock off (k + 1) := by
  have hc : coversClock off (k + 1) = (coversClock off k || decide (r = .glob .walclk)) := by
    rw [coversClock_succ, hd]
  cases hl : acc.done.lookup r with
  | some v =>
    have he : readOnce r acc = (v, acc) := by unfold readOnce; rw [hl]
    have hs : coversClock off (k + 1) = coversClock off k := by
      rw [hc]
      by_cases hw : r = .glob .walclk
      · subst hw
        have := h.clock
        rw [hl] at this
        rw [← this]; rfl
      · simp [hw]
    rw [he]
    refine ⟨h.done r v hl, ?_, h.done, ?_⟩
    · unfold readState; rw [hs]; exact h.st
    · rw [hs]; exact h.clock
  | none =>
    have he : readOnce r acc =
        ((readValue r acc.st).1 &&& r.rmask,
         { acc with st := (readValue r acc.st).2, done := (r, (readValue r acc.st).1 &&& r.rmask) :: acc.done }) := by
      unfold readOnce; rw [hl]
    have hw0 : r = .glob .walclk → coversClock off k = false := by
      rintro rfl
      rw [← h.clock, hl]; rfl
    have hv : (readValue r acc.st).1 &&& r.rmask = shown s r := by
      unfold shown; rw [h.st, readValue_readState hw0]
    rw [he]
    refine ⟨hv, ?_, ?_, ?_⟩
    · dsimp only
      rw [h.st]
      by_cases hw : r = .glob .walclk
      · subst hw
        unfold readState
        rw [hw0 rfl, hc, hw0 rfl]
        rfl
      · rw [readValue_state hw]
        unfold readState
        rw [hc]; simp [hw]
    · intro r' v hv'
      dsimp only at hv'
      rw [List.lookup_cons] at hv'
      by_cases hr : r' = r
      · subst hr
        simp only [beq_self_eq_true] at hv'
        exact (Option.some.inj hv').symm.trans hv
      · have : (r' == r) = false := by simpa using hr
        rw [this] at hv'
        exact h.done r' v hv'
    · dsimp only
      rw [List.lookup_cons, hc]
      by_cases hw : r = .glob .walclk
      · subst hw; simp
      · have : ((Reg.glob .walclk) == r) = false := by simpa using fun e => hw e.symm
        rw [this]
        simp only [hw, decide_false, Bool.or_false]
        exact h.clock

theorem readSpec_step {off k : Nat} {s : State} {acc : ReadAcc} (h : ReadSpec off k s acc) (hk : k < 4) :
    ReadSpec off (k + 1) s (readStep off acc k) := by
  cases hd : decodeByte (off + k) with
  | none =>
    have he : readStep off acc k = acc := by unfold readStep; rw [hd]
    have hc : coversClock off (k + 1) = coversClock off k := by rw [coversClock_succ, hd]; simp
    rw [he]
    refine ⟨?_, h.done, ?_, ?_⟩
    · rw [h.st]; unfold readState; rw [hc]
    · rw [h.clock, hc]
    · intro j hj
      rw [h.bytes j hj]
      by_cases hjk : j = k
      · subst hjk; rw [if_neg (Nat.lt_irrefl _), if_pos (Nat.lt_succ_self _), hd]
      · by_cases hlt : j < k
        · rw [if_pos hlt, if_pos (by omega)]
        · rw [if_neg hlt, if_neg (by omega)]
  | some p =>
    obtain ⟨r, i⟩ := p
    obtain ⟨hv, hst, hdone, hclk⟩ := readSpec_readOnce h hd
    have he : readStep off acc k =
        { (readOnce r acc).2 with
          result := (readOnce r acc).2.result ||| ((byteLane (readOnce r acc).1 i).setWidth 32 <<< (8 * k)) } := by
      unfold readStep; rw [hd]
    rw [he]
    refine ⟨hst, hdone, hclk, ?_⟩
    intro j hj
    dsimp only
    rw [readOnce_result, byteLane_or_shift _ _ _ _ hk hj, hv, h.bytes j hj]
    by_cases hjk : j = k
    · subst hjk
      rw [if_pos rfl, if_neg (Nat.lt_irrefl _), if_pos (Nat.lt_succ_self _), hd]
      simp
    · rw [if_neg hjk]
      by_cases hlt : j < k
      · rw [if_pos hlt, if_pos (by omega)]
      · rw [if_neg hlt, if_neg (by omega)]

theorem readSpec_foldl (off : Nat) (s : State) : ∀ k, k ≤ 4 →
    ReadSpec off k s ((List.range k).foldl (readStep off) ⟨s, [], 0⟩) := by
  intro k
  induction k with
  | zero =>
    intro _
    refine ⟨rfl, fun r v h => (by cases h), rfl, fun j _ => ?_⟩
    rw [if_neg (Nat.not_lt_zero j)]
    exact byteLane_zero j
  | succ k ih =>
    intro hk
    rw [List.range_succ, List.foldl_append, List.foldl_cons, List.foldl_nil]
    exact readSpec_step (ih (by omega)) (by omega)

theorem Width.bytes_le (w : Width) : w.bytes ≤ 4 := by cases w <;> decide

/-- What a read returns (R131): each covered byte of each register's masked value in its lane, 0 elsewhere. -/
theorem hostRead_bytes (off : Nat) (w : Width) (s : State) (j : Nat) (hj : j < 4) :
    byteLane (hostRead off w s).out.readData j =
      if j < w.bytes then (match decodeByte (off + j) with | some (r, i) => byteLane (shown s r) i | none => 0) else 0 :=
  (readSpec_foldl off s w.bytes (Width.bytes_le w)).bytes j hj

/-- What a read changes: the value returned, and WALCLK if a byte of it is covered (R78). -/
theorem hostRead_eq (off : Nat) (w : Width) (s : State) :
    hostRead off w s =
      { readState off w.bytes s with out := { s.out with readData := (hostRead off w s).out.readData } } := by
  have h := (readSpec_foldl off s w.bytes (Width.bytes_le w)).st
  have ho : (readState off w.bytes s).out = s.out := by
    unfold readState; split
    · rw [walclkEval_eq]
    · rfl
  have e : hostRead off w s =
      { ((List.range w.bytes).foldl (readStep off) ⟨s, [], 0⟩).st with
        out := { ((List.range w.bytes).foldl (readStep off) ⟨s, [], 0⟩).st.out with
                 readData := (hostRead off w s).out.readData } } := rfl
  rw [h, ho] at e
  exact e

/-- A read changes no register but WALCLK (R78). -/
theorem hostRead_rd {off : Nat} {w : Width} {s : State} {r : Reg} (h : r ≠ .glob .walclk) :
    (hostRead off w s).regs.rd r = s.regs.rd r := by
  rw [hostRead_eq]
  unfold readState
  split
  · exact walclkEval_rd h
  · rfl

/-- A read that covers no byte of WALCLK, or is made while no engine is armed, changes no register. -/
theorem hostRead_regs (off : Nat) (w : Width) (s : State) :
    hostRead off w s =
      { s with
        regs := (hostRead off w s).regs,
        out := { s.out with readData := (hostRead off w s).out.readData } } := by
  conv => lhs; rw [hostRead_eq]
  have e : (hostRead off w s).regs = (readState off w.bytes s).regs := by
    conv => lhs; rw [hostRead_eq]
  rw [e]
  unfold readState
  split
  · conv => lhs; rw [walclkEval_eq]
  · rfl

/-! ### SINK (R303) -/

/-- SINK touches only its stream's ring, the bytes rendered or captured, and the count returned. -/
structure SinkOnly (n : Stream) (s t : State) : Prop where
  cfg : t.cfg = s.cfg
  regs : t.regs = s.regs
  corbBuf : t.corbBuf = s.corbBuf
  rirbBuf : t.rirbBuf = s.rirbBuf
  respPending : t.respPending = s.respPending
  corbKick : t.corbKick = s.corbKick
  irqLevel : t.irqLevel = s.irqLevel
  wcEpoch : t.wcEpoch = s.wcEpoch
  now : t.now = s.now
  counts : t.counts = s.counts
  mem : t.mem = s.mem
  saved : t.saved = s.saved
  pending : t.pending = s.pending
  wire : t.out.wire = s.out.wire
  readData : t.out.readData = s.out.readData
  sinkCalls : t.out.sinkCalls = s.out.sinkCalls
  dma : ∀ m, m ≠ n → t.dmaOf m = s.dmaOf m
  ring : t.dmaOf n = { s.dmaOf n with ring := (t.dmaOf n).ring }

theorem sinkStep_only (n : Stream) (k : Nat) (s : State) : SinkOnly n s (sinkStep n k s) := by
  unfold sinkStep
  dsimp only
  split
  · split
    · refine ⟨rfl, rfl, rfl, rfl, rfl, rfl, rfl, rfl, rfl, rfl, rfl, rfl, rfl, rfl, rfl, rfl, ?_, ?_⟩
      · intro m hm
        exact (State.dmaOf_setDma _ n m _).trans (if_neg hm)
      · simp [returnMoved, sinkCapture, State.dmaOf, State.setDma, Vector.get_eq_getElem]
    · refine ⟨rfl, rfl, rfl, rfl, rfl, rfl, rfl, rfl, rfl, rfl, rfl, rfl, rfl, rfl, rfl, rfl, ?_, ?_⟩
      · intro m hm
        exact (State.dmaOf_setDma _ n m _).trans (if_neg hm)
      · simp [returnMoved, sinkRender, State.dmaOf, State.setDma, Vector.get_eq_getElem]
  · exact ⟨rfl, rfl, rfl, rfl, rfl, rfl, rfl, rfl, rfl, rfl, rfl, rfl, rfl, rfl, rfl, rfl, fun _ _ => rfl, rfl⟩

/-! ### RESTORE (R309) -/

theorem onlyStream_rearmTail (r : Snapshot) (n : Stream) (f : Fmt) (s : State) :
    OnlyStream n s (resumeStream r n f s) := by
  unfold resumeStream
  dsimp only
  exact ((onlyStream_askSink n f s).trans (onlyStream_noteBackend n _ _)).trans (onlyStream_setDma _ n _)

/-- The binding of the tag at the start of `rearm` (R309). -/
def bindTag (n : Stream) (s : State) : State := s.setDma n { s.dmaOf n with boundTag := s.regs.tag n }

theorem rearm_eq (r : Snapshot) (n : Stream) (s : State) :
    rearm r n s =
      match fetchBdl (bindTag n s) n with
      | none => (bindTag n s).countStartRefused n
      | some bytes =>
        match startFormat (loadBdl n bytes (bindTag n s)) n ((loadBdl n bytes (bindTag n s)).dmaOf n).bdl with
        | none => (loadBdl n bytes (bindTag n s)).countStartRefused n
        | some f =>
          if positionOk ((loadBdl n bytes (bindTag n s)).dmaOf n) ((loadBdl n bytes (bindTag n s)).regs.entryCount n)
          then resumeStream r n f (loadBdl n bytes (bindTag n s))
          else (loadBdl n bytes (bindTag n s)).countStartRefused n := rfl

theorem onlyStream_rearm (r : Snapshot) (n : Stream) (s : State) : OnlyStream n s (rearm r n s) := by
  rw [rearm_eq]
  have hb : OnlyStream n s (bindTag n s) := onlyStream_setDma s n _
  refine hb.trans ?_
  generalize bindTag n s = u
  cases fetchBdl u n with
  | none => exact onlyStream_countStartRefused u n
  | some bytes =>
    refine (onlyStream_loadBdl n bytes u).trans ?_
    dsimp only
    generalize loadBdl n bytes u = w
    cases startFormat w n (w.dmaOf n).bdl with
    | none => exact onlyStream_countStartRefused w n
    | some f =>
      dsimp only
      split
      · exact onlyStream_rearmTail r n f w
      · exact onlyStream_countStartRefused w n

theorem onlyStream_restorePosition (r : Snapshot) (n : Stream) (s : State) : OnlyStream n s (restorePosition r n s) :=
  onlyStream_setDma s n _

theorem onlyStream_restoreStream (r : Snapshot) (s : State) (n : Stream) : OnlyStream n s (restoreStream r s n) := by
  unfold restoreStream
  refine (onlyStream_restorePosition r n s).trans ?_
  dsimp only
  split
  · exact onlyStream_rearm r n _
  · exact OnlyStream.refl n _

@[simp] theorem resumeStream_regs (r : Snapshot) (n : Stream) (f : Fmt) (s : State) :
    (resumeStream r n f s).regs = s.regs := by
  simp [resumeStream]

/-- A re-arm changes no register (R309). -/
@[simp] theorem rearm_regs (r : Snapshot) (n : Stream) (s : State) : (rearm r n s).regs = s.regs := by
  rw [rearm_eq]
  have hb : (bindTag n s).regs = s.regs := rfl
  rw [← hb]
  generalize bindTag n s = u
  cases fetchBdl u n with
  | none => rfl
  | some bytes =>
    have hl := loadBdl_regs n bytes u
    rw [← hl]
    dsimp only
    generalize loadBdl n bytes u = w
    cases startFormat w n (w.dmaOf n).bdl with
    | none => rfl
    | some f =>
      dsimp only
      split
      · simp
      · rfl

@[simp] theorem restoreStream_regs (r : Snapshot) (s : State) (n : Stream) : (restoreStream r s n).regs = s.regs := by
  unfold restoreStream
  dsimp only
  split
  · rw [rearm_regs]; rfl
  · rfl

/-- The position, the reset flag and the timer of a record are what RESTORE puts there (R309). -/
structure Placed (p : SavedStream) (d : Dma) : Prop where
  curEntry : d.curEntry = p.curEntry
  curOff : d.curOff = p.curOff
  inReset : d.inReset = p.inReset
  tsNext : d.tsNext = p.tsNext

theorem resumeStream_dmaOf (r : Snapshot) (n : Stream) (f : Fmt) (s : State) :
    ∃ sched k loop ring ok, (resumeStream r n f s).dmaOf n =
      { s.dmaOf n with
        sched := sched, schedIdx := k, schedLoop := loop, sinkOk := ok, ring := ring,
        tsLast := min s.now (s.dmaOf n).tsNext, running := true } := by
  simp [resumeStream]

theorem rearm_placed {r : Snapshot} {n : Stream} {s : State} {p : SavedStream} (h : Placed p (s.dmaOf n)) :
    Placed p ((rearm r n s).dmaOf n) := by
  rw [rearm_eq]
  have hb : Placed p ((bindTag n s).dmaOf n) := by
    unfold bindTag; rw [State.dmaOf_setDma, if_pos rfl]; exact ⟨h.1, h.2, h.3, h.4⟩
  generalize bindTag n s = u at hb
  cases fetchBdl u n with
  | none => exact hb
  | some bytes =>
    have hl : Placed p ((loadBdl n bytes u).dmaOf n) := by
      rw [loadBdl_dmaOf]; exact ⟨hb.1, hb.2, hb.3, hb.4⟩
    dsimp only
    generalize loadBdl n bytes u = w at hl
    cases startFormat w n (w.dmaOf n).bdl with
    | none => exact hl
    | some f =>
      dsimp only
      split
      · obtain ⟨_, _, _, _, _, e⟩ := resumeStream_dmaOf r n f w
        rw [e]; exact ⟨hl.1, hl.2, hl.3, hl.4⟩
      · exact hl

theorem restoreStream_placed (r : Snapshot) (s : State) (n : Stream) :
    Placed (r.perStream.get n) ((restoreStream r s n).dmaOf n) := by
  have h : Placed (r.perStream.get n) ((restorePosition r n s).dmaOf n) := by
    unfold restorePosition; dsimp only; rw [State.dmaOf_setDma, if_pos rfl]; exact ⟨rfl, rfl, rfl, rfl⟩
  unfold restoreStream
  dsimp only
  split
  · exact rearm_placed h
  · exact h

/-- The state RESTORE reaches before it drives the wire (R309). -/
def restored (r : Snapshot) (s : State) : State := allStreams.foldl (restoreStream r) (restoreCore r (disableAll s))

theorem restore_eq (r : Snapshot) (s : State) : restore r s = (restored r s).driveWire r.irqLevel := rfl

theorem foldl_restore_regs (r : Snapshot) (l : List Stream) : ∀ s, (l.foldl (restoreStream r) s).regs = s.regs := by
  induction l with
  | nil => intro s; rfl
  | cons n rest ih => intro s; rw [List.foldl_cons, ih, restoreStream_regs]

/-- What RESTORE leaves of what does not belong to one stream: the saved registers and epoch, an empty
command mirror, the response mirror re-read, nothing pending, the kick for a running ring (R309). -/
theorem restoreCore_eq (r : Snapshot) (s : State) :
    restoreCore r s =
      { s with
        regs := r.regs, wcEpoch := r.wcEpoch, corbBuf := Vector.replicate 256 0,
        rirbBuf := reloadRirb { s with regs := r.regs, wcEpoch := r.wcEpoch, corbBuf := Vector.replicate 256 0 },
        respPending := 0, corbKick := r.regs.crst && r.regs.corbRun } := rfl

theorem quiet_restoreCore (r : Snapshot) (s : State) : Quiet s (restoreCore r s) :=
  ⟨rfl, rfl, rfl, rfl, rfl, rfl, rfl, rfl, rfl, rfl⟩

/-- RESTORE touches neither guest memory nor the time nor the sequence; the wire only at its end. -/
theorem quiet_restored (r : Snapshot) (s : State) : Quiet s (restored r s) :=
  ((quiet_disableAll s).trans (quiet_restoreCore r _)).trans
    (quiet_foldl (fun s n => (onlyStream_restoreStream r s n).quiet) _ _)

/-- Every register comes back as saved (R310). -/
theorem restored_regs (r : Snapshot) (s : State) : (restored r s).regs = r.regs := by
  unfold restored; rw [foldl_restore_regs]; rfl

theorem foldl_restore_fields (r : Snapshot) (l : List Stream) : ∀ s,
    (l.foldl (restoreStream r) s).corbBuf = s.corbBuf ∧ (l.foldl (restoreStream r) s).rirbBuf = s.rirbBuf ∧
    (l.foldl (restoreStream r) s).respPending = s.respPending ∧
    (l.foldl (restoreStream r) s).corbKick = s.corbKick ∧ (l.foldl (restoreStream r) s).wcEpoch = s.wcEpoch := by
  induction l with
  | nil => intro s; exact ⟨rfl, rfl, rfl, rfl, rfl⟩
  | cons n rest ih =>
    intro s
    rw [List.foldl_cons]
    obtain ⟨a, b, c, d, e⟩ := ih (restoreStream r s n)
    have h := onlyStream_restoreStream r s n
    exact ⟨a.trans h.corbBuf, b.trans h.rirbBuf, c.trans h.respPending, d.trans h.corbKick, e.trans h.wcEpoch⟩

theorem restored_fields (r : Snapshot) (s : State) :
    (restored r s).corbBuf = Vector.replicate 256 0 ∧ (restored r s).respPending = 0 ∧
    (restored r s).corbKick = (r.regs.crst && r.regs.corbRun) ∧ (restored r s).wcEpoch = r.wcEpoch := by
  obtain ⟨a, _, c, d, e⟩ := foldl_restore_fields r allStreams (restoreCore r (disableAll s))
  exact ⟨a, c, d, e⟩

/-- A fold over the streams, each part touching its own stream only: stream `m` ends as its own part left
it, in a state that agrees with the start outside stream `m` on what that part reads. -/
theorem foldl_restore_dmaOf (r : Snapshot) (m : Stream) : ∀ (l : List Stream), l.Nodup → ∀ s,
    (m ∈ l → ∃ u, u.regs = s.regs ∧ Quiet s u ∧ (l.foldl (restoreStream r) s).dmaOf m = (restoreStream r u m).dmaOf m) ∧
    (m ∉ l → (l.foldl (restoreStream r) s).dmaOf m = s.dmaOf m) := by
  intro l
  induction l with
  | nil => intro _ s; exact ⟨fun h => by simp at h, fun _ => rfl⟩
  | cons n rest ih =>
    intro hn s
    obtain ⟨h1, h2⟩ := List.nodup_cons.mp hn
    obtain ⟨i1, i2⟩ := ih h2 (restoreStream r s n)
    rw [List.foldl_cons]
    constructor
    · intro hm
      by_cases hmn : m = n
      · subst hmn
        exact ⟨s, rfl, Quiet.refl s, i2 h1⟩
      · obtain ⟨u, hu, hq, e⟩ := i1 ((List.mem_cons.mp hm).resolve_left hmn)
        exact ⟨u, hu.trans (restoreStream_regs r s n), (onlyStream_restoreStream r s n).quiet.trans hq, e⟩
    · intro hm
      rw [List.mem_cons, not_or] at hm
      rw [i2 hm.2, (onlyStream_restoreStream r s n).dma m hm.1]

theorem restored_dmaOf (r : Snapshot) (s : State) (m : Stream) :
    ∃ u, u.regs = r.regs ∧ Quiet s u ∧ (restored r s).dmaOf m = (restoreStream r u m).dmaOf m := by
  obtain ⟨u, hu, hq, e⟩ :=
    (foldl_restore_dmaOf r m allStreams allStreams_nodup (restoreCore r (disableAll s))).1 (mem_allStreams m)
  exact ⟨u, hu, ((quiet_disableAll s).trans (quiet_restoreCore r _)).trans hq, e⟩

/-- Every stream's position, reset flag and timer come back as saved (R310). -/
theorem restored_placed (r : Snapshot) (s : State) (m : Stream) :
    Placed (r.perStream.get m) ((restored r s).dmaOf m) := by
  obtain ⟨u, _, _, e⟩ := restored_dmaOf r s m
  rw [e]
  exact restoreStream_placed r u m

end Sys2Proof.Machine
end

