-- ==== Sys2Proof/Laws/PerInstr.lean ====
section
/-! SUPPORT. The family of statements about every instruction as syntax: its form, from which its
encoding is computed, gives the instruction back (30_encoding.md R101, R104). -/

namespace Sys2Proof.Laws.Encoding

/-- An instruction is the one its form stands for, so no two rows of the opcode table share a form, and
no operand is dropped on the way to the operation word. -/
def Statement (i : Instr) : Prop := Instr.ofForm i.form = i

theorem rdGCAP (lo : Fin 4) (w : Width) : Statement (.rdGCAP lo w) := rfl
theorem wrGCAP (lo : Fin 4) (w : Width) (v : Word) : Statement (.wrGCAP lo w v) := rfl
theorem rdVMIN (lo : Fin 4) (w : Width) : Statement (.rdVMIN lo w) := rfl
theorem wrVMIN (lo : Fin 4) (w : Width) (v : Word) : Statement (.wrVMIN lo w v) := rfl
theorem rdVMAJ (lo : Fin 4) (w : Width) : Statement (.rdVMAJ lo w) := rfl
theorem wrVMAJ (lo : Fin 4) (w : Width) (v : Word) : Statement (.wrVMAJ lo w v) := rfl
theorem rdOUTPAY (lo : Fin 4) (w : Width) : Statement (.rdOUTPAY lo w) := rfl
theorem wrOUTPAY (lo : Fin 4) (w : Width) (v : Word) : Statement (.wrOUTPAY lo w v) := rfl
theorem rdINPAY (lo : Fin 4) (w : Width) : Statement (.rdINPAY lo w) := rfl
theorem wrINPAY (lo : Fin 4) (w : Width) (v : Word) : Statement (.wrINPAY lo w v) := rfl
theorem rdGCTL (lo : Fin 4) (w : Width) : Statement (.rdGCTL lo w) := rfl
theorem wrGCTL (lo : Fin 4) (w : Width) (v : Word) : Statement (.wrGCTL lo w v) := rfl
theorem rdWAKEEN (lo : Fin 4) (w : Width) : Statement (.rdWAKEEN lo w) := rfl
theorem wrWAKEEN (lo : Fin 4) (w : Width) (v : Word) : Statement (.wrWAKEEN lo w v) := rfl
theorem rdSTATESTS (lo : Fin 4) (w : Width) : Statement (.rdSTATESTS lo w) := rfl
theorem wrSTATESTS (lo : Fin 4) (w : Width) (v : Word) : Statement (.wrSTATESTS lo w v) := rfl
theorem rdGSTS (lo : Fin 4) (w : Width) : Statement (.rdGSTS lo w) := rfl
theorem wrGSTS (lo : Fin 4) (w : Width) (v : Word) : Statement (.wrGSTS lo w v) := rfl
theorem rdINTCTL (lo : Fin 4) (w : Width) : Statement (.rdINTCTL lo w) := rfl
theorem wrINTCTL (lo : Fin 4) (w : Width) (v : Word) : Statement (.wrINTCTL lo w v) := rfl
theorem rdINTSTS (lo : Fin 4) (w : Width) : Statement (.rdINTSTS lo w) := rfl
theorem wrINTSTS (lo : Fin 4) (w : Width) (v : Word) : Statement (.wrINTSTS lo w v) := rfl
theorem rdWALCLK (lo : Fin 4) (w : Width) : Statement (.rdWALCLK lo w) := rfl
theorem wrWALCLK (lo : Fin 4) (w : Width) (v : Word) : Statement (.wrWALCLK lo w v) := rfl
theorem rdCORBLBASE (lo : Fin 4) (w : Width) : Statement (.rdCORBLBASE lo w) := rfl
theorem wrCORBLBASE (lo : Fin 4) (w : Width) (v : Word) : Statement (.wrCORBLBASE lo w v) := rfl
theorem rdCORBUBASE (lo : Fin 4) (w : Width) : Statement (.rdCORBUBASE lo w) := rfl
theorem wrCORBUBASE (lo : Fin 4) (w : Width) (v : Word) : Statement (.wrCORBUBASE lo w v) := rfl
theorem rdCORBWP (lo : Fin 4) (w : Width) : Statement (.rdCORBWP lo w) := rfl
theorem wrCORBWP (lo : Fin 4) (w : Width) (v : Word) : Statement (.wrCORBWP lo w v) := rfl
theorem rdCORBRP (lo : Fin 4) (w : Width) : Statement (.rdCORBRP lo w) := rfl
theorem wrCORBRP (lo : Fin 4) (w : Width) (v : Word) : Statement (.wrCORBRP lo w v) := rfl
theorem rdCORBCTL (lo : Fin 4) (w : Width) : Statement (.rdCORBCTL lo w) := rfl
theorem wrCORBCTL (lo : Fin 4) (w : Width) (v : Word) : Statement (.wrCORBCTL lo w v) := rfl
theorem rdCORBSTS (lo : Fin 4) (w : Width) : Statement (.rdCORBSTS lo w) := rfl
theorem wrCORBSTS (lo : Fin 4) (w : Width) (v : Word) : Statement (.wrCORBSTS lo w v) := rfl
theorem rdCORBSIZE (lo : Fin 4) (w : Width) : Statement (.rdCORBSIZE lo w) := rfl
theorem wrCORBSIZE (lo : Fin 4) (w : Width) (v : Word) : Statement (.wrCORBSIZE lo w v) := rfl
theorem rdRIRBLBASE (lo : Fin 4) (w : Width) : Statement (.rdRIRBLBASE lo w) := rfl
theorem wrRIRBLBASE (lo : Fin 4) (w : Width) (v : Word) : Statement (.wrRIRBLBASE lo w v) := rfl
theorem rdRIRBUBASE (lo : Fin 4) (w : Width) : Statement (.rdRIRBUBASE lo w) := rfl
theorem wrRIRBUBASE (lo : Fin 4) (w : Width) (v : Word) : Statement (.wrRIRBUBASE lo w v) := rfl
theorem rdRIRBWP (lo : Fin 4) (w : Width) : Statement (.rdRIRBWP lo w) := rfl
theorem wrRIRBWP (lo : Fin 4) (w : Width) (v : Word) : Statement (.wrRIRBWP lo w v) := rfl
theorem rdRINTCNT (lo : Fin 4) (w : Width) : Statement (.rdRINTCNT lo w) := rfl
theorem wrRINTCNT (lo : Fin 4) (w : Width) (v : Word) : Statement (.wrRINTCNT lo w v) := rfl
theorem rdRIRBCTL (lo : Fin 4) (w : Width) : Statement (.rdRIRBCTL lo w) := rfl
theorem wrRIRBCTL (lo : Fin 4) (w : Width) (v : Word) : Statement (.wrRIRBCTL lo w v) := rfl
theorem rdRIRBSTS (lo : Fin 4) (w : Width) : Statement (.rdRIRBSTS lo w) := rfl
theorem wrRIRBSTS (lo : Fin 4) (w : Width) (v : Word) : Statement (.wrRIRBSTS lo w v) := rfl
theorem rdRIRBSIZE (lo : Fin 4) (w : Width) : Statement (.rdRIRBSIZE lo w) := rfl
theorem wrRIRBSIZE (lo : Fin 4) (w : Width) (v : Word) : Statement (.wrRIRBSIZE lo w v) := rfl
theorem rdSD0CTL (lo : Fin 4) (w : Width) : Statement (.rdSD0CTL lo w) := rfl
theorem wrSD0CTL (lo : Fin 4) (w : Width) (v : Word) : Statement (.wrSD0CTL lo w v) := rfl
theorem rdSD0STS (lo : Fin 4) (w : Width) : Statement (.rdSD0STS lo w) := rfl
theorem wrSD0STS (lo : Fin 4) (w : Width) (v : Word) : Statement (.wrSD0STS lo w v) := rfl
theorem rdSD0LPIB (lo : Fin 4) (w : Width) : Statement (.rdSD0LPIB lo w) := rfl
theorem wrSD0LPIB (lo : Fin 4) (w : Width) (v : Word) : Statement (.wrSD0LPIB lo w v) := rfl
theorem rdSD0CBL (lo : Fin 4) (w : Width) : Statement (.rdSD0CBL lo w) := rfl
theorem wrSD0CBL (lo : Fin 4) (w : Width) (v : Word) : Statement (.wrSD0CBL lo w v) := rfl
theorem rdSD0LVI (lo : Fin 4) (w : Width) : Statement (.rdSD0LVI lo w) := rfl
theorem wrSD0LVI (lo : Fin 4) (w : Width) (v : Word) : Statement (.wrSD0LVI lo w v) := rfl
theorem rdSD0FIFOW (lo : Fin 4) (w : Width) : Statement (.rdSD0FIFOW lo w) := rfl
theorem wrSD0FIFOW (lo : Fin 4) (w : Width) (v : Word) : Statement (.wrSD0FIFOW lo w v) := rfl
theorem rdSD0FIFOS (lo : Fin 4) (w : Width) : Statement (.rdSD0FIFOS lo w) := rfl
theorem wrSD0FIFOS (lo : Fin 4) (w : Width) (v : Word) : Statement (.wrSD0FIFOS lo w v) := rfl
theorem rdSD0FMT (lo : Fin 4) (w : Width) : Statement (.rdSD0FMT lo w) := rfl
theorem wrSD0FMT (lo : Fin 4) (w : Width) (v : Word) : Statement (.wrSD0FMT lo w v) := rfl
theorem rdSD0BDPL (lo : Fin 4) (w : Width) : Statement (.rdSD0BDPL lo w) := rfl
theorem wrSD0BDPL (lo : Fin 4) (w : Width) (v : Word) : Statement (.wrSD0BDPL lo w v) := rfl
theorem rdSD0BDPU (lo : Fin 4) (w : Width) : Statement (.rdSD0BDPU lo w) := rfl
theorem wrSD0BDPU (lo : Fin 4) (w : Width) (v : Word) : Statement (.wrSD0BDPU lo w v) := rfl
theorem rdSD1CTL (lo : Fin 4) (w : Width) : Statement (.rdSD1CTL lo w) := rfl
theorem wrSD1CTL (lo : Fin 4) (w : Width) (v : Word) : Statement (.wrSD1CTL lo w v) := rfl
theorem rdSD1STS (lo : Fin 4) (w : Width) : Statement (.rdSD1STS lo w) := rfl
theorem wrSD1STS (lo : Fin 4) (w : Width) (v : Word) : Statement (.wrSD1STS lo w v) := rfl
theorem rdSD1LPIB (lo : Fin 4) (w : Width) : Statement (.rdSD1LPIB lo w) := rfl
theorem wrSD1LPIB (lo : Fin 4) (w : Width) (v : Word) : Statement (.wrSD1LPIB lo w v) := rfl
theorem rdSD1CBL (lo : Fin 4) (w : Width) : Statement (.rdSD1CBL lo w) := rfl
theorem wrSD1CBL (lo : Fin 4) (w : Width) (v : Word) : Statement (.wrSD1CBL lo w v) := rfl
theorem rdSD1LVI (lo : Fin 4) (w : Width) : Statement (.rdSD1LVI lo w) := rfl
theorem wrSD1LVI (lo : Fin 4) (w : Width) (v : Word) : Statement (.wrSD1LVI lo w v) := rfl
theorem rdSD1FIFOW (lo : Fin 4) (w : Width) : Statement (.rdSD1FIFOW lo w) := rfl
theorem wrSD1FIFOW (lo : Fin 4) (w : Width) (v : Word) : Statement (.wrSD1FIFOW lo w v) := rfl
theorem rdSD1FIFOS (lo : Fin 4) (w : Width) : Statement (.rdSD1FIFOS lo w) := rfl
theorem wrSD1FIFOS (lo : Fin 4) (w : Width) (v : Word) : Statement (.wrSD1FIFOS lo w v) := rfl
theorem rdSD1FMT (lo : Fin 4) (w : Width) : Statement (.rdSD1FMT lo w) := rfl
theorem wrSD1FMT (lo : Fin 4) (w : Width) (v : Word) : Statement (.wrSD1FMT lo w v) := rfl
theorem rdSD1BDPL (lo : Fin 4) (w : Width) : Statement (.rdSD1BDPL lo w) := rfl
theorem wrSD1BDPL (lo : Fin 4) (w : Width) (v : Word) : Statement (.wrSD1BDPL lo w v) := rfl
theorem rdSD1BDPU (lo : Fin 4) (w : Width) : Statement (.rdSD1BDPU lo w) := rfl
theorem wrSD1BDPU (lo : Fin 4) (w : Width) (v : Word) : Statement (.wrSD1BDPU lo w v) := rfl
theorem rdSD2CTL (lo : Fin 4) (w : Width) : Statement (.rdSD2CTL lo w) := rfl
theorem wrSD2CTL (lo : Fin 4) (w : Width) (v : Word) : Statement (.wrSD2CTL lo w v) := rfl
theorem rdSD2STS (lo : Fin 4) (w : Width) : Statement (.rdSD2STS lo w) := rfl
theorem wrSD2STS (lo : Fin 4) (w : Width) (v : Word) : Statement (.wrSD2STS lo w v) := rfl
theorem rdSD2LPIB (lo : Fin 4) (w : Width) : Statement (.rdSD2LPIB lo w) := rfl
theorem wrSD2LPIB (lo : Fin 4) (w : Width) (v : Word) : Statement (.wrSD2LPIB lo w v) := rfl
theorem rdSD2CBL (lo : Fin 4) (w : Width) : Statement (.rdSD2CBL lo w) := rfl
theorem wrSD2CBL (lo : Fin 4) (w : Width) (v : Word) : Statement (.wrSD2CBL lo w v) := rfl
theorem rdSD2LVI (lo : Fin 4) (w : Width) : Statement (.rdSD2LVI lo w) := rfl
theorem wrSD2LVI (lo : Fin 4) (w : Width) (v : Word) : Statement (.wrSD2LVI lo w v) := rfl
theorem rdSD2FIFOW (lo : Fin 4) (w : Width) : Statement (.rdSD2FIFOW lo w) := rfl
theorem wrSD2FIFOW (lo : Fin 4) (w : Width) (v : Word) : Statement (.wrSD2FIFOW lo w v) := rfl
theorem rdSD2FIFOS (lo : Fin 4) (w : Width) : Statement (.rdSD2FIFOS lo w) := rfl
theorem wrSD2FIFOS (lo : Fin 4) (w : Width) (v : Word) : Statement (.wrSD2FIFOS lo w v) := rfl
theorem rdSD2FMT (lo : Fin 4) (w : Width) : Statement (.rdSD2FMT lo w) := rfl
theorem wrSD2FMT (lo : Fin 4) (w : Width) (v : Word) : Statement (.wrSD2FMT lo w v) := rfl
theorem rdSD2BDPL (lo : Fin 4) (w : Width) : Statement (.rdSD2BDPL lo w) := rfl
theorem wrSD2BDPL (lo : Fin 4) (w : Width) (v : Word) : Statement (.wrSD2BDPL lo w v) := rfl
theorem rdSD2BDPU (lo : Fin 4) (w : Width) : Statement (.rdSD2BDPU lo w) := rfl
theorem wrSD2BDPU (lo : Fin 4) (w : Width) (v : Word) : Statement (.wrSD2BDPU lo w v) := rfl
theorem rdSD3CTL (lo : Fin 4) (w : Width) : Statement (.rdSD3CTL lo w) := rfl
theorem wrSD3CTL (lo : Fin 4) (w : Width) (v : Word) : Statement (.wrSD3CTL lo w v) := rfl
theorem rdSD3STS (lo : Fin 4) (w : Width) : Statement (.rdSD3STS lo w) := rfl
theorem wrSD3STS (lo : Fin 4) (w : Width) (v : Word) : Statement (.wrSD3STS lo w v) := rfl
theorem rdSD3LPIB (lo : Fin 4) (w : Width) : Statement (.rdSD3LPIB lo w) := rfl
theorem wrSD3LPIB (lo : Fin 4) (w : Width) (v : Word) : Statement (.wrSD3LPIB lo w v) := rfl
theorem rdSD3CBL (lo : Fin 4) (w : Width) : Statement (.rdSD3CBL lo w) := rfl
theorem wrSD3CBL (lo : Fin 4) (w : Width) (v : Word) : Statement (.wrSD3CBL lo w v) := rfl
theorem rdSD3LVI (lo : Fin 4) (w : Width) : Statement (.rdSD3LVI lo w) := rfl
theorem wrSD3LVI (lo : Fin 4) (w : Width) (v : Word) : Statement (.wrSD3LVI lo w v) := rfl
theorem rdSD3FIFOW (lo : Fin 4) (w : Width) : Statement (.rdSD3FIFOW lo w) := rfl
theorem wrSD3FIFOW (lo : Fin 4) (w : Width) (v : Word) : Statement (.wrSD3FIFOW lo w v) := rfl
theorem rdSD3FIFOS (lo : Fin 4) (w : Width) : Statement (.rdSD3FIFOS lo w) := rfl
theorem wrSD3FIFOS (lo : Fin 4) (w : Width) (v : Word) : Statement (.wrSD3FIFOS lo w v) := rfl
theorem rdSD3FMT (lo : Fin 4) (w : Width) : Statement (.rdSD3FMT lo w) := rfl
theorem wrSD3FMT (lo : Fin 4) (w : Width) (v : Word) : Statement (.wrSD3FMT lo w v) := rfl
theorem rdSD3BDPL (lo : Fin 4) (w : Width) : Statement (.rdSD3BDPL lo w) := rfl
theorem wrSD3BDPL (lo : Fin 4) (w : Width) (v : Word) : Statement (.wrSD3BDPL lo w v) := rfl
theorem rdSD3BDPU (lo : Fin 4) (w : Width) : Statement (.rdSD3BDPU lo w) := rfl
theorem wrSD3BDPU (lo : Fin 4) (w : Width) (v : Word) : Statement (.wrSD3BDPU lo w v) := rfl
theorem rdSD4CTL (lo : Fin 4) (w : Width) : Statement (.rdSD4CTL lo w) := rfl
theorem wrSD4CTL (lo : Fin 4) (w : Width) (v : Word) : Statement (.wrSD4CTL lo w v) := rfl
theorem rdSD4STS (lo : Fin 4) (w : Width) : Statement (.rdSD4STS lo w) := rfl
theorem wrSD4STS (lo : Fin 4) (w : Width) (v : Word) : Statement (.wrSD4STS lo w v) := rfl
theorem rdSD4LPIB (lo : Fin 4) (w : Width) : Statement (.rdSD4LPIB lo w) := rfl
theorem wrSD4LPIB (lo : Fin 4) (w : Width) (v : Word) : Statement (.wrSD4LPIB lo w v) := rfl
theorem rdSD4CBL (lo : Fin 4) (w : Width) : Statement (.rdSD4CBL lo w) := rfl
theorem wrSD4CBL (lo : Fin 4) (w : Width) (v : Word) : Statement (.wrSD4CBL lo w v) := rfl
theorem rdSD4LVI (lo : Fin 4) (w : Width) : Statement (.rdSD4LVI lo w) := rfl
theorem wrSD4LVI (lo : Fin 4) (w : Width) (v : Word) : Statement (.wrSD4LVI lo w v) := rfl
theorem rdSD4FIFOW (lo : Fin 4) (w : Width) : Statement (.rdSD4FIFOW lo w) := rfl
theorem wrSD4FIFOW (lo : Fin 4) (w : Width) (v : Word) : Statement (.wrSD4FIFOW lo w v) := rfl
theorem rdSD4FIFOS (lo : Fin 4) (w : Width) : Statement (.rdSD4FIFOS lo w) := rfl
theorem wrSD4FIFOS (lo : Fin 4) (w : Width) (v : Word) : Statement (.wrSD4FIFOS lo w v) := rfl
theorem rdSD4FMT (lo : Fin 4) (w : Width) : Statement (.rdSD4FMT lo w) := rfl
theorem wrSD4FMT (lo : Fin 4) (w : Width) (v : Word) : Statement (.wrSD4FMT lo w v) := rfl
theorem rdSD4BDPL (lo : Fin 4) (w : Width) : Statement (.rdSD4BDPL lo w) := rfl
theorem wrSD4BDPL (lo : Fin 4) (w : Width) (v : Word) : Statement (.wrSD4BDPL lo w v) := rfl
theorem rdSD4BDPU (lo : Fin 4) (w : Width) : Statement (.rdSD4BDPU lo w) := rfl
theorem wrSD4BDPU (lo : Fin 4) (w : Width) (v : Word) : Statement (.wrSD4BDPU lo w v) := rfl
theorem rdSD5CTL (lo : Fin 4) (w : Width) : Statement (.rdSD5CTL lo w) := rfl
theorem wrSD5CTL (lo : Fin 4) (w : Width) (v : Word) : Statement (.wrSD5CTL lo w v) := rfl
theorem rdSD5STS (lo : Fin 4) (w : Width) : Statement (.rdSD5STS lo w) := rfl
theorem wrSD5STS (lo : Fin 4) (w : Width) (v : Word) : Statement (.wrSD5STS lo w v) := rfl
theorem rdSD5LPIB (lo : Fin 4) (w : Width) : Statement (.rdSD5LPIB lo w) := rfl
theorem wrSD5LPIB (lo : Fin 4) (w : Width) (v : Word) : Statement (.wrSD5LPIB lo w v) := rfl
theorem rdSD5CBL (lo : Fin 4) (w : Width) : Statement (.rdSD5CBL lo w) := rfl
theorem wrSD5CBL (lo : Fin 4) (w : Width) (v : Word) : Statement (.wrSD5CBL lo w v) := rfl
theorem rdSD5LVI (lo : Fin 4) (w : Width) : Statement (.rdSD5LVI lo w) := rfl
theorem wrSD5LVI (lo : Fin 4) (w : Width) (v : Word) : Statement (.wrSD5LVI lo w v) := rfl
theorem rdSD5FIFOW (lo : Fin 4) (w : Width) : Statement (.rdSD5FIFOW lo w) := rfl
theorem wrSD5FIFOW (lo : Fin 4) (w : Width) (v : Word) : Statement (.wrSD5FIFOW lo w v) := rfl
theorem rdSD5FIFOS (lo : Fin 4) (w : Width) : Statement (.rdSD5FIFOS lo w) := rfl
theorem wrSD5FIFOS (lo : Fin 4) (w : Width) (v : Word) : Statement (.wrSD5FIFOS lo w v) := rfl
theorem rdSD5FMT (lo : Fin 4) (w : Width) : Statement (.rdSD5FMT lo w) := rfl
theorem wrSD5FMT (lo : Fin 4) (w : Width) (v : Word) : Statement (.wrSD5FMT lo w v) := rfl
theorem rdSD5BDPL (lo : Fin 4) (w : Width) : Statement (.rdSD5BDPL lo w) := rfl
theorem wrSD5BDPL (lo : Fin 4) (w : Width) (v : Word) : Statement (.wrSD5BDPL lo w v) := rfl
theorem rdSD5BDPU (lo : Fin 4) (w : Width) : Statement (.rdSD5BDPU lo w) := rfl
theorem wrSD5BDPU (lo : Fin 4) (w : Width) (v : Word) : Statement (.wrSD5BDPU lo w v) := rfl
theorem rdSD6CTL (lo : Fin 4) (w : Width) : Statement (.rdSD6CTL lo w) := rfl
theorem wrSD6CTL (lo : Fin 4) (w : Width) (v : Word) : Statement (.wrSD6CTL lo w v) := rfl
theorem rdSD6STS (lo : Fin 4) (w : Width) : Statement (.rdSD6STS lo w) := rfl
theorem wrSD6STS (lo : Fin 4) (w : Width) (v : Word) : Statement (.wrSD6STS lo w v) := rfl
theorem rdSD6LPIB (lo : Fin 4) (w : Width) : Statement (.rdSD6LPIB lo w) := rfl
theorem wrSD6LPIB (lo : Fin 4) (w : Width) (v : Word) : Statement (.wrSD6LPIB lo w v) := rfl
theorem rdSD6CBL (lo : Fin 4) (w : Width) : Statement (.rdSD6CBL lo w) := rfl
theorem wrSD6CBL (lo : Fin 4) (w : Width) (v : Word) : Statement (.wrSD6CBL lo w v) := rfl
theorem rdSD6LVI (lo : Fin 4) (w : Width) : Statement (.rdSD6LVI lo w) := rfl
theorem wrSD6LVI (lo : Fin 4) (w : Width) (v : Word) : Statement (.wrSD6LVI lo w v) := rfl
theorem rdSD6FIFOW (lo : Fin 4) (w : Width) : Statement (.rdSD6FIFOW lo w) := rfl
theorem wrSD6FIFOW (lo : Fin 4) (w : Width) (v : Word) : Statement (.wrSD6FIFOW lo w v) := rfl
theorem rdSD6FIFOS (lo : Fin 4) (w : Width) : Statement (.rdSD6FIFOS lo w) := rfl
theorem wrSD6FIFOS (lo : Fin 4) (w : Width) (v : Word) : Statement (.wrSD6FIFOS lo w v) := rfl
theorem rdSD6FMT (lo : Fin 4) (w : Width) : Statement (.rdSD6FMT lo w) := rfl
theorem wrSD6FMT (lo : Fin 4) (w : Width) (v : Word) : Statement (.wrSD6FMT lo w v) := rfl
theorem rdSD6BDPL (lo : Fin 4) (w : Width) : Statement (.rdSD6BDPL lo w) := rfl
theorem wrSD6BDPL (lo : Fin 4) (w : Width) (v : Word) : Statement (.wrSD6BDPL lo w v) := rfl
theorem rdSD6BDPU (lo : Fin 4) (w : Width) : Statement (.rdSD6BDPU lo w) := rfl
theorem wrSD6BDPU (lo : Fin 4) (w : Width) (v : Word) : Statement (.wrSD6BDPU lo w v) := rfl
theorem rdSD7CTL (lo : Fin 4) (w : Width) : Statement (.rdSD7CTL lo w) := rfl
theorem wrSD7CTL (lo : Fin 4) (w : Width) (v : Word) : Statement (.wrSD7CTL lo w v) := rfl
theorem rdSD7STS (lo : Fin 4) (w : Width) : Statement (.rdSD7STS lo w) := rfl
theorem wrSD7STS (lo : Fin 4) (w : Width) (v : Word) : Statement (.wrSD7STS lo w v) := rfl
theorem rdSD7LPIB (lo : Fin 4) (w : Width) : Statement (.rdSD7LPIB lo w) := rfl
theorem wrSD7LPIB (lo : Fin 4) (w : Width) (v : Word) : Statement (.wrSD7LPIB lo w v) := rfl
theorem rdSD7CBL (lo : Fin 4) (w : Width) : Statement (.rdSD7CBL lo w) := rfl
theorem wrSD7CBL (lo : Fin 4) (w : Width) (v : Word) : Statement (.wrSD7CBL lo w v) := rfl
theorem rdSD7LVI (lo : Fin 4) (w : Width) : Statement (.rdSD7LVI lo w) := rfl
theorem wrSD7LVI (lo : Fin 4) (w : Width) (v : Word) : Statement (.wrSD7LVI lo w v) := rfl
theorem rdSD7FIFOW (lo : Fin 4) (w : Width) : Statement (.rdSD7FIFOW lo w) := rfl
theorem wrSD7FIFOW (lo : Fin 4) (w : Width) (v : Word) : Statement (.wrSD7FIFOW lo w v) := rfl
theorem rdSD7FIFOS (lo : Fin 4) (w : Width) : Statement (.rdSD7FIFOS lo w) := rfl
theorem wrSD7FIFOS (lo : Fin 4) (w : Width) (v : Word) : Statement (.wrSD7FIFOS lo w v) := rfl
theorem rdSD7FMT (lo : Fin 4) (w : Width) : Statement (.rdSD7FMT lo w) := rfl
theorem wrSD7FMT (lo : Fin 4) (w : Width) (v : Word) : Statement (.wrSD7FMT lo w v) := rfl
theorem rdSD7BDPL (lo : Fin 4) (w : Width) : Statement (.rdSD7BDPL lo w) := rfl
theorem wrSD7BDPL (lo : Fin 4) (w : Width) (v : Word) : Statement (.wrSD7BDPL lo w v) := rfl
theorem rdSD7BDPU (lo : Fin 4) (w : Width) : Statement (.rdSD7BDPU lo w) := rfl
theorem wrSD7BDPU (lo : Fin 4) (w : Width) (v : Word) : Statement (.wrSD7BDPU lo w v) := rfl
theorem rdWALCLKAlias (lo : Fin 4) (w : Width) : Statement (.rdWALCLKAlias lo w) := rfl
theorem wrWALCLKAlias (lo : Fin 4) (w : Width) (v : Word) : Statement (.wrWALCLKAlias lo w v) := rfl
theorem rdSD0LPIBAlias (lo : Fin 4) (w : Width) : Statement (.rdSD0LPIBAlias lo w) := rfl
theorem wrSD0LPIBAlias (lo : Fin 4) (w : Width) (v : Word) : Statement (.wrSD0LPIBAlias lo w v) := rfl
theorem rdSD1LPIBAlias (lo : Fin 4) (w : Width) : Statement (.rdSD1LPIBAlias lo w) := rfl
theorem wrSD1LPIBAlias (lo : Fin 4) (w : Width) (v : Word) : Statement (.wrSD1LPIBAlias lo w v) := rfl
theorem rdSD2LPIBAlias (lo : Fin 4) (w : Width) : Statement (.rdSD2LPIBAlias lo w) := rfl
theorem wrSD2LPIBAlias (lo : Fin 4) (w : Width) (v : Word) : Statement (.wrSD2LPIBAlias lo w v) := rfl
theorem rdSD3LPIBAlias (lo : Fin 4) (w : Width) : Statement (.rdSD3LPIBAlias lo w) := rfl
theorem wrSD3LPIBAlias (lo : Fin 4) (w : Width) (v : Word) : Statement (.wrSD3LPIBAlias lo w v) := rfl
theorem rdSD4LPIBAlias (lo : Fin 4) (w : Width) : Statement (.rdSD4LPIBAlias lo w) := rfl
theorem wrSD4LPIBAlias (lo : Fin 4) (w : Width) (v : Word) : Statement (.wrSD4LPIBAlias lo w v) := rfl
theorem rdSD5LPIBAlias (lo : Fin 4) (w : Width) : Statement (.rdSD5LPIBAlias lo w) := rfl
theorem wrSD5LPIBAlias (lo : Fin 4) (w : Width) (v : Word) : Statement (.wrSD5LPIBAlias lo w v) := rfl
theorem rdSD6LPIBAlias (lo : Fin 4) (w : Width) : Statement (.rdSD6LPIBAlias lo w) := rfl
theorem wrSD6LPIBAlias (lo : Fin 4) (w : Width) (v : Word) : Statement (.wrSD6LPIBAlias lo w v) := rfl
theorem rdSD7LPIBAlias (lo : Fin 4) (w : Width) : Statement (.rdSD7LPIBAlias lo w) := rfl
theorem wrSD7LPIBAlias (lo : Fin 4) (w : Width) (v : Word) : Statement (.wrSD7LPIBAlias lo w v) := rfl
theorem rdUnmapped (off : BitVec 24) (w : Width) : Statement (.rdUnmapped off w) := rfl
theorem wrUnmapped (off : BitVec 24) (w : Width) (v : Word) : Statement (.wrUnmapped off w v) := rfl
theorem drain : Statement (.drain) := rfl
theorem tick (n : BitVec 4) : Statement (.tick n) := rfl
theorem sink (n : BitVec 4) (k : Word) : Statement (.sink n k) := rfl
theorem time (d : Word) : Statement (.time d) := rfl
theorem save : Statement (.save) := rfl
theorem restore : Statement (.restore) := rfl
theorem poweroff : Statement (.poweroff) := rfl
theorem poreset : Statement (.poreset) := rfl

end Sys2Proof.Laws.Encoding
end

