-- ==== Sys2Proof/Laws/Restore.lean ====
section
/-! SUPPORT. Which answers of the sinks a start and a RESTORE take (45_host_ops.md R305, R309; 20_memory.md R92):
two for each stream armed, the streams in ascending order. -/

namespace Sys2Proof.Machine

theorem sinkAsk_eq (s : State) (c : SinkCall) :
    (s.sinkAsk c).1 = sinkAnswerAt s 0 ∧
    (s.sinkAsk c).2.oracle = { s.oracle with sink := s.oracle.sink.drop 1, sinkSeq := s.oracle.sinkSeq + 1 } := by
  unfold sinkAnswerAt State.sinkAsk State.recordCall
  dsimp only
  cases h : s.oracle.sink with
  | nil =>
    refine ⟨rfl, ?_⟩
    simp
  | cons a rest => exact ⟨rfl, rfl⟩

/-- The two calls before a stream is armed: the sink accepted if it accepted both (R262, R305). -/
theorem askSink_eq (n : Stream) (f : Fmt) (s : State) :
    (askSink n f s).1 = (sinkAnswerAt s 0 && sinkAnswerAt s 1) ∧
    (askSink n f s).2.oracle = { s.oracle with sink := s.oracle.sink.drop 2, sinkSeq := s.oracle.sinkSeq + 2 } := by
  obtain ⟨a1, a2⟩ := sinkAsk_eq s (.setFormat n f.rate f.channels f.bits)
  obtain ⟨b1, b2⟩ := sinkAsk_eq (s.sinkAsk (.setFormat n f.rate f.channels f.bits)).2 (.start n)
  refine ⟨?_, ?_⟩
  · change ((s.sinkAsk _).1 && ((s.sinkAsk _).2.sinkAsk _).1) = _
    rw [a1, b1]
    unfold sinkAnswerAt
    rw [a2]
    simp
  · change ((s.sinkAsk _).2.sinkAsk _).2.oracle = _
    rw [b2, a2]
    simp

/-- Between `s` and `t` the sinks were asked twice if stream `n` is armed in `t`, else not at all. -/
def Asked (s t : State) (n : Stream) : Prop :=
  t.oracle.sink = s.oracle.sink.drop (if (t.dmaOf n).running then 2 else 0) ∧
  t.oracle.sinkSeq = s.oracle.sinkSeq + if (t.dmaOf n).running then 2 else 0

theorem asked_of_not_armed {s t : State} {n : Stream} (h : t.oracle = s.oracle) (hr : (t.dmaOf n).running = false) :
    Asked s t n := by
  unfold Asked
  rw [h, hr]
  simp

theorem asked_resumeStream {s t : State} {n : Stream} (r : Snapshot) (f : Fmt) (h : t.oracle = s.oracle) :
    Asked s (resumeStream r n f t) n := by
  have ho : (resumeStream r n f t).oracle = (askSink n f t).2.oracle := by
    unfold resumeStream
    dsimp only
    show (noteBackend n _ _).oracle = _
    unfold noteBackend
    split <;> rfl
  have hr : ((resumeStream r n f t).dmaOf n).running = true := by
    unfold resumeStream
    dsimp only
    rw [State.dmaOf_setDma, if_pos rfl]
  unfold Asked
  rw [ho, (askSink_eq n f t).2, hr, h]
  exact ⟨rfl, rfl⟩

theorem asked_rearm {s t : State} {n : Stream} (r : Snapshot) (h : t.oracle = s.oracle)
    (hr : (t.dmaOf n).running = false) : Asked s (rearm r n t) n := by
  rw [rearm_eq]
  have h1 : (bindTag n t).oracle = s.oracle := h
  have hr1 : ((bindTag n t).dmaOf n).running = false := by
    unfold bindTag
    rw [State.dmaOf_setDma, if_pos rfl]
    exact hr
  generalize bindTag n t = u at *
  cases fetchBdl u n with
  | none => exact asked_of_not_armed h1 hr1
  | some bytes =>
    have h2 : (loadBdl n bytes u).oracle = s.oracle := by simp [loadBdl, h1]
    have hr2 : ((loadBdl n bytes u).dmaOf n).running = false := by
      rw [loadBdl_dmaOf]
      exact hr1
    have loaded : ∀ (F : Option Fmt) (b : Bool), Asked s (match F with
        | none => (loadBdl n bytes u).countStartRefused n
        | some f =>
          if b then resumeStream r n f (loadBdl n bytes u) else (loadBdl n bytes u).countStartRefused n) n := by
      intro F b
      cases F with
      | none => exact asked_of_not_armed h2 hr2
      | some f =>
        cases b with
        | true => exact asked_resumeStream r f h2
        | false => exact asked_of_not_armed h2 hr2
    exact loaded _ _

/-- RESTORE asks the sinks of stream `n` twice if it re-arms the stream, else not at all (R309, R305). -/
theorem asked_restoreStream (r : Snapshot) (s : State) (n : Stream) : Asked s (restoreStream r s n) n := by
  have h : (restorePosition r n s).oracle = s.oracle := rfl
  have hr : ((restorePosition r n s).dmaOf n).running = false := by
    unfold restorePosition
    dsimp only
    rw [State.dmaOf_setDma, if_pos rfl]
    rfl
  unfold restoreStream
  dsimp only
  split
  · exact asked_rearm r h hr
  · exact asked_of_not_armed h hr

theorem foldl_restore_other (r : Snapshot) (m : Stream) : ∀ (l : List Stream) (s : State), m ∉ l →
    (l.foldl (restoreStream r) s).dmaOf m = s.dmaOf m := by
  intro l
  induction l with
  | nil => intro s _; rfl
  | cons n l ih =>
    intro s h
    rw [List.foldl_cons, ih _ (fun e => h (List.mem_cons_of_mem _ e))]
    exact (onlyStream_restoreStream r s n).dma m (fun e => h (by rw [e]; exact List.mem_cons_self ..))

/-- The answers taken by the streams of a list: two for each that is armed afterwards. -/
theorem foldl_restore_asked (r : Snapshot) : ∀ (l : List Stream), l.Nodup → ∀ s : State,
    (l.foldl (restoreStream r) s).oracle.sink =
      s.oracle.sink.drop (2 * (l.filter fun m => ((l.foldl (restoreStream r) s).dmaOf m).running).length) ∧
    (l.foldl (restoreStream r) s).oracle.sinkSeq =
      s.oracle.sinkSeq + 2 * (l.filter fun m => ((l.foldl (restoreStream r) s).dmaOf m).running).length := by
  intro l
  induction l with
  | nil => intro _ s; simp
  | cons n l ih =>
    intro hn s
    obtain ⟨h1, h2⟩ := List.nodup_cons.mp hn
    rw [List.foldl_cons]
    obtain ⟨i1, i2⟩ := ih h2 (restoreStream r s n)
    obtain ⟨a1, a2⟩ := asked_restoreStream r s n
    rw [i1, i2, a1, a2, List.filter_cons, foldl_restore_other r n l (restoreStream r s n) h1, List.drop_drop]
    split
    · rw [List.length_cons]
      constructor
      · congr 1; omega
      · omega
    · constructor
      · congr 1; omega
      · omega

end Sys2Proof.Machine
end

