-- ==== Sys2Proof/Tests/Slice0.lean ====
section
/-! SUPPORT. Tests: the decoding of one word per row of the opcode table, written out from
30_encoding.md R101; ill-formed terms; single steps whose results stand in spec/95_test_vectors.md, or are worked out
by hand from the rule named; and, for every statement with hypotheses, a state and operands that meet them. -/

namespace Sys2Proof.Tests

set_option Elab.async false

open Sys2Proof Sys2Proof.Machine

/-! ### Decoding -/

/-- The decoder reads the instruction from the word. -/
def decodesTo (p : Nat × Instr) : Bool := decide (decodeTableWord 64 p.1 = some p.2)

theorem test_decode_global : List.all [
    (0x0200000000000000, .rdGCAP 0 .w2),
    (0x1200000000005AC3, .wrGCAP 0 .w2 0x5AC3),
    (0x0100000200000000, .rdVMIN 0 .w1),
    (0x11000002000000A5, .wrVMIN 0 .w1 0xA5),
    (0x0100000300000000, .rdVMAJ 0 .w1),
    (0x11000003000000A5, .wrVMAJ 0 .w1 0xA5),
    (0x0200000400000000, .rdOUTPAY 0 .w2),
    (0x1200000400005AC3, .wrOUTPAY 0 .w2 0x5AC3),
    (0x0200000600000000, .rdINPAY 0 .w2),
    (0x1200000600005AC3, .wrINPAY 0 .w2 0x5AC3),
    (0x0400000800000000, .rdGCTL 0 .w4),
    (0x14000008C0000081, .wrGCTL 0 .w4 0xC0000081),
    (0x0200000C00000000, .rdWAKEEN 0 .w2),
    (0x1200000C00005AC3, .wrWAKEEN 0 .w2 0x5AC3),
    (0x0200000E00000000, .rdSTATESTS 0 .w2),
    (0x1200000E00005AC3, .wrSTATESTS 0 .w2 0x5AC3),
    (0x0200001000000000, .rdGSTS 0 .w2),
    (0x1200001000005AC3, .wrGSTS 0 .w2 0x5AC3),
    (0x0400002000000000, .rdINTCTL 0 .w4),
    (0x14000020C0000081, .wrINTCTL 0 .w4 0xC0000081),
    (0x0400002400000000, .rdINTSTS 0 .w4),
    (0x14000024C0000081, .wrINTSTS 0 .w4 0xC0000081),
    (0x0400003000000000, .rdWALCLK 0 .w4),
    (0x14000030C0000081, .wrWALCLK 0 .w4 0xC0000081),
    (0x0400004000000000, .rdCORBLBASE 0 .w4),
    (0x14000040C0000081, .wrCORBLBASE 0 .w4 0xC0000081),
    (0x0400004400000000, .rdCORBUBASE 0 .w4),
    (0x14000044C0000081, .wrCORBUBASE 0 .w4 0xC0000081),
    (0x0200004800000000, .rdCORBWP 0 .w2),
    (0x1200004800005AC3, .wrCORBWP 0 .w2 0x5AC3),
    (0x0200004A00000000, .rdCORBRP 0 .w2),
    (0x1200004A00005AC3, .wrCORBRP 0 .w2 0x5AC3),
    (0x0100004C00000000, .rdCORBCTL 0 .w1),
    (0x1100004C000000A5, .wrCORBCTL 0 .w1 0xA5),
    (0x0100004D00000000, .rdCORBSTS 0 .w1),
    (0x1100004D000000A5, .wrCORBSTS 0 .w1 0xA5),
    (0x0100004E00000000, .rdCORBSIZE 0 .w1),
    (0x1100004E000000A5, .wrCORBSIZE 0 .w1 0xA5),
    (0x0400005000000000, .rdRIRBLBASE 0 .w4),
    (0x14000050C0000081, .wrRIRBLBASE 0 .w4 0xC0000081),
    (0x0400005400000000, .rdRIRBUBASE 0 .w4),
    (0x14000054C0000081, .wrRIRBUBASE 0 .w4 0xC0000081),
    (0x0200005800000000, .rdRIRBWP 0 .w2),
    (0x1200005800005AC3, .wrRIRBWP 0 .w2 0x5AC3),
    (0x0200005A00000000, .rdRINTCNT 0 .w2),
    (0x1200005A00005AC3, .wrRINTCNT 0 .w2 0x5AC3),
    (0x0100005C00000000, .rdRIRBCTL 0 .w1),
    (0x1100005C000000A5, .wrRIRBCTL 0 .w1 0xA5),
    (0x0100005D00000000, .rdRIRBSTS 0 .w1),
    (0x1100005D000000A5, .wrRIRBSTS 0 .w1 0xA5),
    (0x0100005E00000000, .rdRIRBSIZE 0 .w1),
    (0x1100005E000000A5, .wrRIRBSIZE 0 .w1 0xA5)] decodesTo = true := by decide +kernel

theorem test_decode_stream0 : List.all [
    (0x0300008000000000, .rdSD0CTL 0 .w3),
    (0x1300008000140006, .wrSD0CTL 0 .w3 0x140006),
    (0x0100008300000000, .rdSD0STS 0 .w1),
    (0x11000083000000A5, .wrSD0STS 0 .w1 0xA5),
    (0x0400008400000000, .rdSD0LPIB 0 .w4),
    (0x14000084C0000081, .wrSD0LPIB 0 .w4 0xC0000081),
    (0x0400008800000000, .rdSD0CBL 0 .w4),
    (0x14000088C0000081, .wrSD0CBL 0 .w4 0xC0000081),
    (0x0200008C00000000, .rdSD0LVI 0 .w2),
    (0x1200008C00005AC3, .wrSD0LVI 0 .w2 0x5AC3),
    (0x0200008E00000000, .rdSD0FIFOW 0 .w2),
    (0x1200008E00005AC3, .wrSD0FIFOW 0 .w2 0x5AC3),
    (0x0200009000000000, .rdSD0FIFOS 0 .w2),
    (0x1200009000005AC3, .wrSD0FIFOS 0 .w2 0x5AC3),
    (0x0200009200000000, .rdSD0FMT 0 .w2),
    (0x1200009200005AC3, .wrSD0FMT 0 .w2 0x5AC3),
    (0x0400009800000000, .rdSD0BDPL 0 .w4),
    (0x14000098C0000081, .wrSD0BDPL 0 .w4 0xC0000081),
    (0x0400009C00000000, .rdSD0BDPU 0 .w4),
    (0x1400009CC0000081, .wrSD0BDPU 0 .w4 0xC0000081)] decodesTo = true := by decide +kernel

theorem test_decode_stream1 : List.all [
    (0x030000A000000000, .rdSD1CTL 0 .w3),
    (0x130000A000140006, .wrSD1CTL 0 .w3 0x140006),
    (0x010000A300000000, .rdSD1STS 0 .w1),
    (0x110000A3000000A5, .wrSD1STS 0 .w1 0xA5),
    (0x040000A400000000, .rdSD1LPIB 0 .w4),
    (0x140000A4C0000081, .wrSD1LPIB 0 .w4 0xC0000081),
    (0x040000A800000000, .rdSD1CBL 0 .w4),
    (0x140000A8C0000081, .wrSD1CBL 0 .w4 0xC0000081),
    (0x020000AC00000000, .rdSD1LVI 0 .w2),
    (0x120000AC00005AC3, .wrSD1LVI 0 .w2 0x5AC3),
    (0x020000AE00000000, .rdSD1FIFOW 0 .w2),
    (0x120000AE00005AC3, .wrSD1FIFOW 0 .w2 0x5AC3),
    (0x020000B000000000, .rdSD1FIFOS 0 .w2),
    (0x120000B000005AC3, .wrSD1FIFOS 0 .w2 0x5AC3),
    (0x020000B200000000, .rdSD1FMT 0 .w2),
    (0x120000B200005AC3, .wrSD1FMT 0 .w2 0x5AC3),
    (0x040000B800000000, .rdSD1BDPL 0 .w4),
    (0x140000B8C0000081, .wrSD1BDPL 0 .w4 0xC0000081),
    (0x040000BC00000000, .rdSD1BDPU 0 .w4),
    (0x140000BCC0000081, .wrSD1BDPU 0 .w4 0xC0000081)] decodesTo = true := by decide +kernel

theorem test_decode_stream2 : List.all [
    (0x030000C000000000, .rdSD2CTL 0 .w3),
    (0x130000C000140006, .wrSD2CTL 0 .w3 0x140006),
    (0x010000C300000000, .rdSD2STS 0 .w1),
    (0x110000C3000000A5, .wrSD2STS 0 .w1 0xA5),
    (0x040000C400000000, .rdSD2LPIB 0 .w4),
    (0x140000C4C0000081, .wrSD2LPIB 0 .w4 0xC0000081),
    (0x040000C800000000, .rdSD2CBL 0 .w4),
    (0x140000C8C0000081, .wrSD2CBL 0 .w4 0xC0000081),
    (0x020000CC00000000, .rdSD2LVI 0 .w2),
    (0x120000CC00005AC3, .wrSD2LVI 0 .w2 0x5AC3),
    (0x020000CE00000000, .rdSD2FIFOW 0 .w2),
    (0x120000CE00005AC3, .wrSD2FIFOW 0 .w2 0x5AC3),
    (0x020000D000000000, .rdSD2FIFOS 0 .w2),
    (0x120000D000005AC3, .wrSD2FIFOS 0 .w2 0x5AC3),
    (0x020000D200000000, .rdSD2FMT 0 .w2),
    (0x120000D200005AC3, .wrSD2FMT 0 .w2 0x5AC3),
    (0x040000D800000000, .rdSD2BDPL 0 .w4),
    (0x140000D8C0000081, .wrSD2BDPL 0 .w4 0xC0000081),
    (0x040000DC00000000, .rdSD2BDPU 0 .w4),
    (0x140000DCC0000081, .wrSD2BDPU 0 .w4 0xC0000081)] decodesTo = true := by decide +kernel

theorem test_decode_stream3 : List.all [
    (0x030000E000000000, .rdSD3CTL 0 .w3),
    (0x130000E000140006, .wrSD3CTL 0 .w3 0x140006),
    (0x010000E300000000, .rdSD3STS 0 .w1),
    (0x110000E3000000A5, .wrSD3STS 0 .w1 0xA5),
    (0x040000E400000000, .rdSD3LPIB 0 .w4),
    (0x140000E4C0000081, .wrSD3LPIB 0 .w4 0xC0000081),
    (0x040000E800000000, .rdSD3CBL 0 .w4),
    (0x140000E8C0000081, .wrSD3CBL 0 .w4 0xC0000081),
    (0x020000EC00000000, .rdSD3LVI 0 .w2),
    (0x120000EC00005AC3, .wrSD3LVI 0 .w2 0x5AC3),
    (0x020000EE00000000, .rdSD3FIFOW 0 .w2),
    (0x120000EE00005AC3, .wrSD3FIFOW 0 .w2 0x5AC3),
    (0x020000F000000000, .rdSD3FIFOS 0 .w2),
    (0x120000F000005AC3, .wrSD3FIFOS 0 .w2 0x5AC3),
    (0x020000F200000000, .rdSD3FMT 0 .w2),
    (0x120000F200005AC3, .wrSD3FMT 0 .w2 0x5AC3),
    (0x040000F800000000, .rdSD3BDPL 0 .w4),
    (0x140000F8C0000081, .wrSD3BDPL 0 .w4 0xC0000081),
    (0x040000FC00000000, .rdSD3BDPU 0 .w4),
    (0x140000FCC0000081, .wrSD3BDPU 0 .w4 0xC0000081)] decodesTo = true := by decide +kernel

theorem test_decode_stream4 : List.all [
    (0x0300010000000000, .rdSD4CTL 0 .w3),
    (0x1300010000140006, .wrSD4CTL 0 .w3 0x140006),
    (0x0100010300000000, .rdSD4STS 0 .w1),
    (0x11000103000000A5, .wrSD4STS 0 .w1 0xA5),
    (0x0400010400000000, .rdSD4LPIB 0 .w4),
    (0x14000104C0000081, .wrSD4LPIB 0 .w4 0xC0000081),
    (0x0400010800000000, .rdSD4CBL 0 .w4),
    (0x14000108C0000081, .wrSD4CBL 0 .w4 0xC0000081),
    (0x0200010C00000000, .rdSD4LVI 0 .w2),
    (0x1200010C00005AC3, .wrSD4LVI 0 .w2 0x5AC3),
    (0x0200010E00000000, .rdSD4FIFOW 0 .w2),
    (0x1200010E00005AC3, .wrSD4FIFOW 0 .w2 0x5AC3),
    (0x0200011000000000, .rdSD4FIFOS 0 .w2),
    (0x1200011000005AC3, .wrSD4FIFOS 0 .w2 0x5AC3),
    (0x0200011200000000, .rdSD4FMT 0 .w2),
    (0x1200011200005AC3, .wrSD4FMT 0 .w2 0x5AC3),
    (0x0400011800000000, .rdSD4BDPL 0 .w4),
    (0x14000118C0000081, .wrSD4BDPL 0 .w4 0xC0000081),
    (0x0400011C00000000, .rdSD4BDPU 0 .w4),
    (0x1400011CC0000081, .wrSD4BDPU 0 .w4 0xC0000081)] decodesTo = true := by decide +kernel

theorem test_decode_stream5 : List.all [
    (0x0300012000000000, .rdSD5CTL 0 .w3),
    (0x1300012000140006, .wrSD5CTL 0 .w3 0x140006),
    (0x0100012300000000, .rdSD5STS 0 .w1),
    (0x11000123000000A5, .wrSD5STS 0 .w1 0xA5),
    (0x0400012400000000, .rdSD5LPIB 0 .w4),
    (0x14000124C0000081, .wrSD5LPIB 0 .w4 0xC0000081),
    (0x0400012800000000, .rdSD5CBL 0 .w4),
    (0x14000128C0000081, .wrSD5CBL 0 .w4 0xC0000081),
    (0x0200012C00000000, .rdSD5LVI 0 .w2),
    (0x1200012C00005AC3, .wrSD5LVI 0 .w2 0x5AC3),
    (0x0200012E00000000, .rdSD5FIFOW 0 .w2),
    (0x1200012E00005AC3, .wrSD5FIFOW 0 .w2 0x5AC3),
    (0x0200013000000000, .rdSD5FIFOS 0 .w2),
    (0x1200013000005AC3, .wrSD5FIFOS 0 .w2 0x5AC3),
    (0x0200013200000000, .rdSD5FMT 0 .w2),
    (0x1200013200005AC3, .wrSD5FMT 0 .w2 0x5AC3),
    (0x0400013800000000, .rdSD5BDPL 0 .w4),
    (0x14000138C0000081, .wrSD5BDPL 0 .w4 0xC0000081),
    (0x0400013C00000000, .rdSD5BDPU 0 .w4),
    (0x1400013CC0000081, .wrSD5BDPU 0 .w4 0xC0000081)] decodesTo = true := by decide +kernel

theorem test_decode_stream6 : List.all [
    (0x0300014000000000, .rdSD6CTL 0 .w3),
    (0x1300014000140006, .wrSD6CTL 0 .w3 0x140006),
    (0x0100014300000000, .rdSD6STS 0 .w1),
    (0x11000143000000A5, .wrSD6STS 0 .w1 0xA5),
    (0x0400014400000000, .rdSD6LPIB 0 .w4),
    (0x14000144C0000081, .wrSD6LPIB 0 .w4 0xC0000081),
    (0x0400014800000000, .rdSD6CBL 0 .w4),
    (0x14000148C0000081, .wrSD6CBL 0 .w4 0xC0000081),
    (0x0200014C00000000, .rdSD6LVI 0 .w2),
    (0x1200014C00005AC3, .wrSD6LVI 0 .w2 0x5AC3),
    (0x0200014E00000000, .rdSD6FIFOW 0 .w2),
    (0x1200014E00005AC3, .wrSD6FIFOW 0 .w2 0x5AC3),
    (0x0200015000000000, .rdSD6FIFOS 0 .w2),
    (0x1200015000005AC3, .wrSD6FIFOS 0 .w2 0x5AC3),
    (0x0200015200000000, .rdSD6FMT 0 .w2),
    (0x1200015200005AC3, .wrSD6FMT 0 .w2 0x5AC3),
    (0x0400015800000000, .rdSD6BDPL 0 .w4),
    (0x14000158C0000081, .wrSD6BDPL 0 .w4 0xC0000081),
    (0x0400015C00000000, .rdSD6BDPU 0 .w4),
    (0x1400015CC0000081, .wrSD6BDPU 0 .w4 0xC0000081)] decodesTo = true := by decide +kernel

theorem test_decode_stream7 : List.all [
    (0x0300016000000000, .rdSD7CTL 0 .w3),
    (0x1300016000140006, .wrSD7CTL 0 .w3 0x140006),
    (0x0100016300000000, .rdSD7STS 0 .w1),
    (0x11000163000000A5, .wrSD7STS 0 .w1 0xA5),
    (0x0400016400000000, .rdSD7LPIB 0 .w4),
    (0x14000164C0000081, .wrSD7LPIB 0 .w4 0xC0000081),
    (0x0400016800000000, .rdSD7CBL 0 .w4),
    (0x14000168C0000081, .wrSD7CBL 0 .w4 0xC0000081),
    (0x0200016C00000000, .rdSD7LVI 0 .w2),
    (0x1200016C00005AC3, .wrSD7LVI 0 .w2 0x5AC3),
    (0x0200016E00000000, .rdSD7FIFOW 0 .w2),
    (0x1200016E00005AC3, .wrSD7FIFOW 0 .w2 0x5AC3),
    (0x0200017000000000, .rdSD7FIFOS 0 .w2),
    (0x1200017000005AC3, .wrSD7FIFOS 0 .w2 0x5AC3),
    (0x0200017200000000, .rdSD7FMT 0 .w2),
    (0x1200017200005AC3, .wrSD7FMT 0 .w2 0x5AC3),
    (0x0400017800000000, .rdSD7BDPL 0 .w4),
    (0x14000178C0000081, .wrSD7BDPL 0 .w4 0xC0000081),
    (0x0400017C00000000, .rdSD7BDPU 0 .w4),
    (0x1400017CC0000081, .wrSD7BDPU 0 .w4 0xC0000081)] decodesTo = true := by decide +kernel

theorem test_decode_second_offset : List.all [
    (0x0400203000000000, .rdWALCLKAlias 0 .w4),
    (0x14002030C0000081, .wrWALCLKAlias 0 .w4 0xC0000081),
    (0x0400208400000000, .rdSD0LPIBAlias 0 .w4),
    (0x14002084C0000081, .wrSD0LPIBAlias 0 .w4 0xC0000081),
    (0x040020A400000000, .rdSD1LPIBAlias 0 .w4),
    (0x140020A4C0000081, .wrSD1LPIBAlias 0 .w4 0xC0000081),
    (0x040020C400000000, .rdSD2LPIBAlias 0 .w4),
    (0x140020C4C0000081, .wrSD2LPIBAlias 0 .w4 0xC0000081),
    (0x040020E400000000, .rdSD3LPIBAlias 0 .w4),
    (0x140020E4C0000081, .wrSD3LPIBAlias 0 .w4 0xC0000081),
    (0x0400210400000000, .rdSD4LPIBAlias 0 .w4),
    (0x14002104C0000081, .wrSD4LPIBAlias 0 .w4 0xC0000081),
    (0x0400212400000000, .rdSD5LPIBAlias 0 .w4),
    (0x14002124C0000081, .wrSD5LPIBAlias 0 .w4 0xC0000081),
    (0x0400214400000000, .rdSD6LPIBAlias 0 .w4),
    (0x14002144C0000081, .wrSD6LPIBAlias 0 .w4 0xC0000081),
    (0x0400216400000000, .rdSD7LPIBAlias 0 .w4),
    (0x14002164C0000081, .wrSD7LPIBAlias 0 .w4 0xC0000081)] decodesTo = true := by decide +kernel

theorem test_decode_other : List.all [
    (0x0400006000000000, .rdUnmapped 0x60 .w4),
    (0x14000060FFFFFFFF, .wrUnmapped 0x60 .w4 0xFFFFFFFF),
    (0x2000000000000000, .drain),
    (0x3400000000000000, .tick 4),
    (0x4400000000000400, .sink 4 1024),
    (0x5000000001458555, .time 21333333),
    (0x6000000000000000, .save),
    (0x7000000000000000, .restore),
    (0x8000000000000000, .poweroff),
    (0x9000000000000000, .poreset)] decodesTo = true := by decide +kernel

/-- An access that starts inside a register is its row's; a reserved KIND, a width of 0, a bit at or above `8*w`,
an access past the window and an ordinal of 8 are refused by name (R101, R103). -/
theorem test_decode_inside : List.all [
    (0x1100000900000001, .wrGCTL 1 .w1 0x01),
    (0x0400203100000000, .rdWALCLKAlias 1 .w4),
    (0x0400001000000000, .rdGSTS 0 .w4),
    (0x04003FFC00000000, .rdUnmapped 0x3FFC .w4),
    (0x3700000000000000, .tick 7)] decodesTo = true := by decide +kernel

theorem test_decode_refuses :
    decode 0xA000000000000000 = .error .reservedKind ∧ decode 0x0000000000000000 = .error .badWidth ∧
    decode 0x0500000000000000 = .error .badWidth ∧ decode 0x1100000800000100 = .error .nonZeroField ∧
    decode 0x0400000000000001 = .error .nonZeroField ∧ decode 0x04003FFD00000000 = .error .pastWindow ∧
    decode 0x3800000000000000 = .error .badOrdinal ∧ decode 0x2000000100000000 = .error .nonZeroField := by
  decide +kernel

theorem test_encode : encode (.wrSD4CTL 0 .w3 0x140006) = 0x1300010000140006 ∧ encode (.sink 4 1024) = 0x4400000000000400 := by
  decide +kernel

/-! ### Well-formedness: one ill-formed term for each check -/

theorem test_wf_startsInside : (Instr.rdGCAP 2 .w1).wf = false ∧ (Instr.rdGCAP 1 .w1).wf = true := by decide +kernel

theorem test_wf_inWindow :
    (Instr.rdUnmapped 0x3FFD .w4).wf = false ∧ (Instr.rdUnmapped 0x3FFC .w4).wf = true ∧
    (Instr.wrUnmapped 0x4000 .w1 0).wf = false := by decide +kernel

theorem test_wf_valueFits : (Instr.wrGCTL 0 .w1 0x100).wf = false ∧ (Instr.wrGCTL 0 .w1 0xFF).wf = true := by
  decide +kernel

theorem test_wf_uncovered : (Instr.rdUnmapped 0x08 .w4).wf = false ∧ (Instr.rdUnmapped 0x12 .w4).wf = true := by
  decide +kernel

theorem test_wf_ordinalOk :
    (Instr.tick 8).wf = false ∧ (Instr.tick 7).wf = true ∧ (Instr.sink 15 0).wf = false := by decide +kernel

/-! ### States -/

/-- The state a step leaves, if it leaves one. -/
def after : Host.Outcome State Fault Refusal → Option State
  | .next t => some t
  | .fault _ => none
  | .refused _ => none

/-- What a read returns. -/
def reads (i : Instr) (s : State) : Option Word := (after (exec i s)).map (·.out.readData)

/-- A register after a step. -/
def leaves (i : Instr) (s : State) (r : Reg) : Option Word := (after (exec i s)).map (·.reg r)

/-- The events on the wire after a step. -/
def wireOf (i : Instr) (s : State) : Option (List Bool) := (after (exec i s)).map (·.out.wire)

/-- A state with registers stored. -/
def withRegs (s : State) (rs : List (Reg × Word)) : State := rs.foldl (fun s p => s.setReg p.1 p.2) s

/-- Bytes of guest memory from an address upward. -/
def bytesAt (a : Nat) : List Byte → Memory
  | [] => []
  | b :: rest => (a, b) :: bytesAt (a + 1) rest

/-- Out of reset, idle: 95_test_vectors.md V1 (GCTL = 1). -/
def awake : State := withRegs State.reset [(.glob .gctl, 1)]

/-- Two-entry rings, the command ring at 0x1000 with 0xB0 and 0xB1, one command before the pointer, the engine
Running and kicked, the codec's answer supplied: 95_test_vectors.md V3.3. -/
def kicked : State :=
  { withRegs awake [(.glob .corbsize, 0x70), (.glob .rirbsize, 0x70), (.glob .corblbase, 0x1000),
      (.glob .rirblbase, 0x2000), (.glob .corbctl, 2), (.glob .rirbctl, 2), (.glob .corbwp, 1)] with
    corbKick := true,
    mem := bytesAt 0x1000 [0xB0, 0, 0, 0, 0xB1, 0, 0, 0] ++ bytesAt 0x2000 (List.replicate 16 0),
    oracle := { Oracle.fresh with codec := [some 0xB1] } }

/-- A list of two entries of two bytes, the second with IOC. -/
def twoEntries : List Bdle := [⟨0x100, 2, false⟩, ⟨0x110, 2, true⟩]

/-- 16-bit stereo at 48 kHz, code 0x0011 (R268). -/
def stereo : Fmt := ⟨48000, 1, 1, 16, 2, 2⟩

/-- The registers of a stream that plays or records `twoEntries`, with RUN and IOCE, the wire enabled. -/
def streamRegsOf (n : Stream) (ctl : Word) : State :=
  withRegs awake [(.str .ctl n, ctl), (.str .cbl n, 4), (.str .lvi n, 1), (.str .fmt n, 0x0011),
    (.str .bdpl n, 0x200), (.glob .intctl, 0x800000FF)]

/-- Stream `n` armed with one step of 4 bytes, 20833 units long (4 * 10^9 / 192000), due now. -/
def armed (n : Stream) (ring : List Byte) : State :=
  { (streamRegsOf n 0x140006).setDma n
      { Dma.reset with
        running := true, bdl := twoEntries, sched := [⟨20833, 4, 1, 0, 2⟩], tsNext := 20833, ring := ring,
        sinkOk := true, boundTag := 1 } with
    now := 20833,
    mem := bytesAt 0x100 [1, 2] ++ bytesAt 0x110 [3, 4] }

/-- The same with the last byte of the list's buffers not backed. -/
def armedUnbacked (n : Stream) (ring : List Byte) : State :=
  { armed n ring with mem := bytesAt 0x100 [1, 2] ++ bytesAt 0x110 [3] }

/-- Stream `n` stopped, the list of `twoEntries` in guest memory at 0x200, the sink's answers supplied. -/
def stopped (n : Stream) : State :=
  { streamRegsOf n 0x040000 with
    mem := bytesAt 0x200
      ([0x00, 1, 0, 0, 0, 0, 0, 0, 2, 0, 0, 0, 0, 0, 0, 0] ++ [0x10, 1, 0, 0, 0, 0, 0, 0, 2, 0, 0, 0, 1, 0, 0, 0]),
    oracle := { Oracle.fresh with sink := [true, true] } }

/-! ### Single steps: bus transactions (95_test_vectors.md V1, V2) -/

/-- V1.1 to V1.7, V2.7. -/
theorem test_reads : List.all [
    (Instr.rdVMAJ 0 .w1, (0x01 : Word)), (.rdVMIN 0 .w2, 0x0100), (.rdGCAP 0 .w4, 0x01004401),
    (.rdCORBCTL 0 .w4, 0x00720000), (.rdSD0CTL 0 .w3, 0x040000), (.rdSD0CTL 0 .w4, 0x20040000),
    (.rdUnmapped 0x60 .w4, 0), (.rdOUTPAY 0 .w2, 0x003C), (.rdINPAY 0 .w2, 0x001D), (.rdGSTS 0 .w2, 0),
    (.rdSD0LPIBAlias 0 .w4, 0), (.rdSD4FIFOS 0 .w2, 0x00BF), (.rdSD0FIFOS 0 .w2, 0x0077), (.rdSD4FIFOW 0 .w2, 4),
    (.rdGCTL 0 .w4, 1), (.rdWALCLKAlias 0 .w4, 0)]
    (fun p => reads p.1 awake = some p.2) = true := by decide +kernel

/-- V1.8: an unmapped write is counted. -/
theorem test_unmapped_write :
    (after (exec (.wrUnmapped 0x60 .w4 0xFFFFFFFF) awake)).map (·.counts.unmappedWrite) = some 1 := by decide +kernel

/-- R23 for the defaults, and for 7 input and 8 output streams: 0x8000 | 0x0700 | 1, and 0xC0000000 with 15 bits set. -/
theorem test_other_streams :
    gcapReset 4 4 = 0x4401 ∧ intMask 8 = 0xC00000FF ∧ (GReg.descFor 7 8 .gcap).reset = 0x8701 ∧
    (GReg.descFor 7 8 .intctl).wmask = 0xC0007FFF ∧ (GReg.descFor 7 8 .intsts).rmask = 0xC0007FFF := by decide +kernel

/-- V1.10 to V1.14: byte lanes and the write mask of CORBLBASE. -/
theorem test_lanes :
    leaves (.wrCORBLBASE 0 .w4 0x12345678) awake (.glob .corblbase) = some 0x12345600 ∧
    leaves (.wrCORBLBASE 1 .w1 0xAB) (withRegs awake [(.glob .corblbase, 0x12345600)]) (.glob .corblbase) = some 0x1234AB00 ∧
    leaves (.wrCORBLBASE 0 .w3 0xFFFFFF) (withRegs awake [(.glob .corblbase, 0x1234AB80)]) (.glob .corblbase) = some 0x12FFFF80 ∧
    leaves (.wrCORBLBASE 1 .w3 0) (withRegs awake [(.glob .corblbase, 0x12FFFF80)]) (.glob .corblbase) = some 0x00000080 := by
  decide +kernel

/-- V1.18: three bytes from byte 2 of SDCTL(0) on. -/
theorem test_spanning :
    leaves (.wrSD0CTL 2 .w3 0x1C00FF) awake (.str .ctl 0) = some 0xFF0000 ∧
    leaves (.wrSD0CTL 2 .w3 0x1C00FF) awake (.str .lpib 0) = some 0 := by decide +kernel

/-- V1.20, V1.24. -/
theorem test_spanning_read_only :
    leaves (.wrSD0FIFOS 0 .w4 0x7F7F0000) awake (.str .fmt 0) = some 0x7F7F ∧
    leaves (.wrRIRBCTL 0 .w4 0x00010502) awake (.glob .rirbsize) = some 0x72 ∧
    leaves (.wrCORBCTL 0 .w4 0x00010102) awake (.glob .corbsize) = some 0x72 := by decide +kernel

/-- V1.25: a start attempt, then the acknowledgement of BCIS; and of the DESE that the failed start has just set (R144 a). -/
theorem test_spanning_start :
    leaves (.wrSD0CTL 0 .w4 0x04100002) (withRegs awake [(.str .sts 0, 0x24)]) (.str .ctl 0) = some 0x100002 ∧
    leaves (.wrSD0CTL 0 .w4 0x04100002) (withRegs awake [(.str .sts 0, 0x24)]) (.str .sts 0) = some 0x30 ∧
    leaves (.wrSD0CTL 0 .w4 0x14100002) (withRegs awake [(.str .sts 0, 0x24)]) (.str .sts 0) = some 0x20 := by
  decide +kernel

/-- R144 d and e: the pointer and its reset request in one write; the reset request and RINTCNT. -/
theorem test_spanning_pointers :
    leaves (.wrCORBWP 0 .w4 0x80000001) awake (.glob .corbwp) = some 0x0001 ∧
    leaves (.wrCORBWP 0 .w4 0x80000001) awake (.glob .corbrp) = some 0x8000 ∧
    leaves (.wrRIRBWP 0 .w4 0x00058000) (withRegs awake [(.glob .rirbwp, 7)]) (.glob .rirbwp) = some 0 ∧
    leaves (.wrRIRBWP 0 .w4 0x00058000) (withRegs awake [(.glob .rirbwp, 7)]) (.glob .rintcnt) = some 5 := by
  decide +kernel

/-- V1.23: held in reset. -/
theorem test_held_in_reset :
    leaves (.wrCORBLBASE 0 .w4 0x12345678) State.reset (.glob .corblbase) = some 0 ∧
    (after (exec (.wrCORBLBASE 0 .w4 0x12345678) State.reset)).map (·.counts.blockedInReset) = some 1 := by
  decide +kernel

/-- V2.1, V2.3: leaving reset reports the codec; UNSOL by a 1-byte write keeps CRST. -/
theorem test_gctl :
    leaves (.wrGCTL 0 .w4 0x101) State.reset (.glob .gctl) = some 0x101 ∧
    leaves (.wrGCTL 0 .w4 0x101) State.reset (.glob .statests) = some 1 ∧
    leaves (.wrGCTL 1 .w1 1) awake (.glob .gctl) = some 0x101 := by decide +kernel

/-- V2.2: entering reset with the wire high lowers it. -/
theorem test_enter_reset :
    wireOf (.wrGCTL 0 .w4 0) { withRegs awake [(.str .sts 4, 0x24), (.str .ctl 4, 0x140004), (.glob .intctl, 0x80000010)] with
      irqLevel := true } = some [false] ∧
    leaves (.wrGCTL 0 .w4 0) (withRegs awake [(.glob .intctl, 0x80000010)]) (.glob .intctl) = some 0 := by decide +kernel

/-- V2.5: a 1-byte write of STATESTS clears the set bits of the other byte too. -/
theorem test_statests :
    leaves (.wrSTATESTS 0 .w1 1) (withRegs awake [(.glob .statests, 0x0101)]) (.glob .statests) = some 0 ∧
    leaves (.wrSTATESTS 1 .w1 0) (withRegs awake [(.glob .statests, 0x0001)]) (.glob .statests) = some 0 := by
  decide +kernel

/-- V2.6: steps a, b, and the read of INTSTS after b. -/
theorem test_wire :
    wireOf (.wrINTCTL 0 .w4 0xC0000000) (withRegs awake [(.glob .statests, 1)]) = some [] ∧
    wireOf (.wrWAKEEN 0 .w2 1) (withRegs awake [(.glob .statests, 1), (.glob .intctl, 0xC0000000)]) = some [true] ∧
    reads (.rdINTSTS 0 .w4) (withRegs awake [(.glob .statests, 1), (.glob .wakeen, 1)]) = some 0xC0000000 := by
  decide +kernel

/-! ### Single steps: rings (V3) -/

/-- V3.3: the command is consumed, its response is appended and flushed. -/
theorem test_drain :
    (after (exec .drain kicked)).map (fun t => (t.regs.corbRp, t.regs.rirbWp, t.corbKick, t.mem.read 0x2008 8)) =
      some (1, 1, false, some [0xB1, 0, 0, 0, 0, 0, 0, 0]) := by decide +kernel

/-- V3.2: a suppressed response leaves its command in the ring. -/
theorem test_drain_suppressed :
    (after (exec .drain { kicked with oracle := { Oracle.fresh with codec := [some 0x1000000022] } })).map
      (fun t => (t.regs.corbRp, t.regs.rirbWp, t.respPending)) = some (0, 0, 0) := by decide +kernel

/-- V3.3: the write pointer modulo the capacity, and the kick. -/
theorem test_corbwp :
    leaves (.wrCORBWP 0 .w2 2) kicked (.glob .corbwp) = some 0 ∧
    (after (exec (.wrCORBWP 0 .w2 1) { kicked with corbKick := false })).map (·.corbKick) = some true := by decide +kernel

/-- S7: a pointer reset while the engine is Running is ignored; the size is kept (R197, R199). -/
theorem test_ring_guards :
    leaves (.wrCORBRP 0 .w2 0x8000) (withRegs kicked [(.glob .corbrp, 1)]) (.glob .corbrp) = some 1 ∧
    leaves (.wrCORBRP 0 .w2 0x8000) (withRegs awake [(.glob .corbrp, 1)]) (.glob .corbrp) = some 0x8000 ∧
    leaves (.wrCORBSIZE 0 .w1 1) kicked (.glob .corbsize) = some 0x70 ∧
    leaves (.wrCORBSIZE 0 .w1 1) awake (.glob .corbsize) = some 0x71 ∧
    leaves (.wrRIRBSIZE 0 .w1 3) awake (.glob .rirbsize) = some 0x72 := by decide +kernel

/-! ### Single steps: streams (V4, V5) -/

/-- V4.1: Reset and out of it. -/
theorem test_srst :
    leaves (.wrSD4CTL 0 .w3 0x140007) awake (.str .ctl 4) = some 0x040001 ∧
    leaves (.wrSD4CTL 0 .w1 0) (withRegs awake [(.str .ctl 4, 0x040001)]) (.str .ctl 4) = some 0x040000 := by
  decide +kernel

/-- V4.3, V4.4: a guarded write; acknowledging BCIS empties the queue and lowers the wire. -/
theorem test_guard_and_ack :
    leaves (.wrSD4CBL 0 .w4 0x2000) (armed 4 []) (.str .cbl 4) = some 4 ∧
    leaves (.wrSD4STS 0 .w1 4) (withRegs (armed 4 []) [(.str .sts 4, 0x24)]) (.str .sts 4) = some 0x20 ∧
    wireOf (.wrSD4STS 0 .w1 4) { withRegs (armed 4 []) [(.str .sts 4, 0x24)] with irqLevel := true } = some [false] := by
  decide +kernel

/-- V5.1: the schedule of six entries. -/
theorem test_schedule :
    buildSchedule Config.default
      [⟨0, 256, false⟩, ⟨0, 256, true⟩, ⟨0, 256, false⟩, ⟨0, 256, false⟩, ⟨0, 256, true⟩, ⟨0, 256, false⟩] stereo =
      [⟨2666666, 512, 1, 0, 2⟩, ⟨4000000, 768, 1, 2, 3⟩, ⟨1333333, 256, 1, 5, 1⟩] := by decide +kernel

/-- V5.2: the table of format codes and durations of 4096 bytes. -/
theorem test_formats :
    [0x0011, 0x4011, 0x0000, 0x0831, 0x4020, 0x2000, 0x0050].map
      (fun v => (decodeFmt v).map fun f => (f.rate, f.channels, f.bits, tickCount Config.default 4096 f)) =
      [some (48000, 2, 16, 21333333), some (44100, 2, 16, 23219954), some (48000, 1, 8, 85333333),
       some (96000, 2, 24, 5333333), some (44100, 1, 20, 23219954), none, none] := by decide +kernel

/-- R262: a start arms the engine with the list's schedule and asks the sink. -/
theorem test_start :
    (after (exec (.wrSD4CTL 0 .w3 0x100002) (stopped 4))).map
      (fun t => ((t.dmaOf 4).running, (t.dmaOf 4).bdl, (t.dmaOf 4).sched, (t.dmaOf 4).tsNext, t.out.sinkCalls)) =
      some (true, twoEntries, [⟨20833, 4, 1, 0, 2⟩], 20833, [.start 4, .setFormat 4 48000 2 16]) := by decide +kernel

/-- R263: the lengths do not sum to SDCBL, so the start is refused; RUN reads 1 (V5.4). -/
theorem test_start_refused :
    (after (exec (.wrSD4CTL 0 .w3 0x100002) (withRegs (stopped 4) [(.str .cbl 4, 3)]))).map
      (fun t => ((t.dmaOf 4).running, t.reg (.str .ctl 4), (t.streamCounts 4).startRefused, t.out.sinkCalls)) =
      some (false, 0x100002, 1, []) := by decide +kernel

/-- R272: one tick of an output stream moves the list's bytes to the ring, wraps LPIB, sets BCIS, raises the wire. -/
theorem test_tick_output :
    (after (exec (.tick 4) (armed 4 []))).map
      (fun t => ((t.dmaOf 4).ring, t.reg (.str .lpib 4), t.reg (.str .sts 4), (t.dmaOf 4).tsNext, t.out.wire)) =
      some ([1, 2, 3, 4], 0, 0x24, 41666, [true]) := by decide +kernel

/-- R272: one tick of an input stream moves the ring's bytes to the list's buffers. -/
theorem test_tick_input :
    (after (exec (.tick 0) (armed 0 [9, 8, 7, 6]))).map (fun t => ((t.dmaOf 0).ring, t.mem)) =
      some ([], bytesAt 0x100 [9, 8] ++ bytesAt 0x110 [7, 6]) := by decide +kernel

/-- R276, R76: the access to the first entry has stored its bytes, the one that meets an unbacked byte none. -/
theorem test_tick_aborts :
    (after (exec (.tick 0) (armedUnbacked 0 [9, 8, 7, 6]))).map (fun t => (t.mem, t.reg (.str .sts 0), (t.dmaOf 0).ring)) =
      some (bytesAt 0x100 [9, 8] ++ bytesAt 0x110 [3], 0x30, [9, 8, 7, 6]) := by decide +kernel

/-! ### Single steps: the environment and the hypervisor (V6) -/

/-- V6.1, V6.2. -/
theorem test_time_and_sink :
    (after (exec (.time 21333333) { State.reset with now := 1000 })).map (·.now) = some 21334333 ∧
    (after (exec (.sink 4 3) (armed 4 [1, 2, 3, 4]))).map (fun t => (t.out.sinkMoved, (t.dmaOf 4).ring, t.out.rendered.get 4)) =
      some (3, [4], [1, 2, 3]) ∧
    (after (exec (.sink 4 100) awake)).map (·.out.sinkMoved) = some 0 := by decide +kernel

/-- An input stream's sink fills the ring with the bytes it produces (R303). -/
theorem test_sink_capture :
    (after (exec (.sink 0 2) { armed 0 [1] with oracle := { Oracle.fresh with capture := [5, 6, 7] } })).map
      (fun t => (t.out.sinkMoved, (t.dmaOf 0).ring, t.oracle.capture)) = some (2, [1, 5, 6], [7]) := by decide +kernel

/-- R312, R360. -/
theorem test_off :
    (after (exec .poweroff (armed 4 [1]))).map (fun t => ((t.dmaOf 4).running, t.reg (.str .ctl 4), t.out.sinkCalls)) =
      some (false, 0x140006, [.stop 4]) ∧
    (after (exec .poreset (armed 4 [1]))).map (fun t => ((t.dmaOf 4).running, t.reg (.str .ctl 4), t.wcEpoch)) =
      some (false, 0x040000, 20833) := by decide +kernel

/-- V6.3, V6.4: a saved stream is back after PORESET and RESTORE, armed at its position. -/
theorem test_save_restore :
    ((after (exec .save State.reset)).bind (·.saved)).map (fun r => (r.perStream.get 0, r.irqLevel)) =
      some (⟨0, 0, false, 0⟩, false) ∧
    (after (exec .restore { stopped 4 with saved := some (snapshotOf (armed 4 [1])), regs := resetRegs })).map
      (fun t => ((t.dmaOf 4).running, (t.dmaOf 4).ring, t.reg (.str .ctl 4))) = some (true, [1], 0x140006) := by
  decide +kernel

/-- The first word of the sequence is performed; without one the step is refused. -/
theorem test_step :
    (after (step (State.reset.withFetchWord 64 0x1400000800000101))).map (·.reg (.glob .gctl)) = some 0x101 ∧
    after (step State.reset) = none := by decide +kernel

/-! ### Witnesses: a state and operands for the hypotheses of each statement -/

/-- An answer is a next state. -/
def goes (o : Host.Outcome State Fault Refusal) : Bool := (after o).isSome

theorem next_of_goes (o : Host.Outcome State Fault Refusal) (h : goes o = true) : ∃ t, o = .next t := by
  cases o <;> simp_all [goes, after]

/-- A write of the whole of a register, out of reset, hands its handler the value written. -/
theorem witness_rowWrite :
    RowWrite (.wrCORBWP 0 .w2 1) awake (.glob .corbwp) 1 ∧ RowWrite (.wrGCTL 3 .w1 0) State.reset (.glob .gctl) 0 ∧
    RowWrite (.wrSD7CTL 1 .w2 0) awake (.str .ctl 7) 0 := by
  refine ⟨⟨.inl (by decide +kernel), _, _, _, _, rfl, rfl, by decide, by decide +kernel⟩,
    ⟨.inr rfl, _, _, _, _, rfl, rfl, by decide, by decide +kernel⟩,
    ⟨.inl (by decide +kernel), _, _, _, _, rfl, rfl, by decide, by decide +kernel⟩⟩

theorem witness_DecodeEncode :
    (Instr.wrUnmapped 0x3FFF .w1 0xFF).wf = true ∧ (Instr.rdSD7LPIBAlias 3 .w4).wf = true ∧
    (Instr.wrGCAP 1 .w3 0xFFFFFF).wf = true ∧ (Instr.sink 7 0xFFFFFFFF).wf = true := by decide +kernel

theorem witness_EncodeDecode :
    decode 0x11003FFF000000FF = .ok (.wrUnmapped 0x3FFF .w1 0xFF) ∧ decode 0x5000000000000000 = .ok (.time 0) := by
  decide +kernel

/-- One word of each clause at the edge of its fields. -/
theorem witness_LegalWords :
    [0x04003FFC00000000, 0x11003FFF000000FF, 0x3700000000000000, 0x47000000FFFFFFFF, 0x50000000FFFFFFFF,
     0x2000000000000000, 0x6000000000000000, 0x7000000000000000, 0x8000000000000000, 0x9000000000000000].all
      (fun x => match decode x with | .ok _ => true | .error _ => false) = true := by decide +kernel

theorem witness_StepRunsDecoded :
    State.reset.pending = [] ∧
    (∃ s x rest e, State.pending s = x :: rest ∧ decode x = .error e) ∧
    (∃ s x rest i, State.pending s = x :: rest ∧ decode x = .ok i) ∧
    ∃ nbits w i, decode (BitVec.ofNat 64 (w % 2 ^ nbits)) = .ok i :=
  ⟨rfl, ⟨State.reset.offerWord 0xF000000000000000, _, _, .reservedKind, rfl, by decide +kernel⟩,
    ⟨State.reset.offerWord 0x6000000000000000, _, _, .save, rfl, by decide +kernel⟩,
    ⟨64, 0x6000000000000000, .save, by decide +kernel⟩⟩

theorem witness_OperationsLeaveTheOutside :
    (∃ t, exec (.time 5) State.reset = .next t) ∧ (∃ t, exec .save State.reset = .next t) ∧
    ∃ t, exec (.tick 0) (armed 0 [9, 8, 7, 6]) = .next t :=
  ⟨next_of_goes _ (by decide +kernel), next_of_goes _ (by decide +kernel), next_of_goes _ (by decide +kernel)⟩

/-- The edges of the ranges of the register map (R26 d, R134). -/
theorem witness_RegisterLayout :
    [0x12, 0x1F, 0x28, 0x2F, 0x34, 0x3F, 0x4F, 0x5F, 0x7F].all (fun o => (decodeByte o).isNone) = true ∧
    [0x11, 0x20, 0x27, 0x30, 0x33, 0x40, 0x4E, 0x50, 0x5E, 0x80].all (fun o => (decodeByte o).isSome) = true := by
  decide +kernel

theorem witness_OffsetDecoding :
    [0x94, 0x97, 0x174, 0x177, 0x180, 0x202F, 0x2034, 0x2083, 0x2088, 0x20A3, 0x2168, 0x3FFF].all
      (fun o => (decodeByte o).isNone) = true ∧
    [0x93, 0x98, 0x17F, 0x2030, 0x2033, 0x2084, 0x2087, 0x20A4, 0x2164, 0x2167].all
      (fun o => (decodeByte o).isSome) = true ∧
    (Reg.glob .gcap).off = 0 ∧ (Reg.glob .rirbsize).off = 0x5E ∧ (Reg.str .ctl 0).off = 0x80 ∧ (Reg.str .bdpu 7).off = 0x17C := by
  decide +kernel

/-- A read from byte 1 of a register, one of a whole register, one at the end of the window. -/
theorem witness_ReadReturnsBytes :
    ReadsAt (.rdGCAP 1 .w4) 1 .w4 ∧ ReadsAt (.rdUnmapped 0x3FFC .w4) 0x3FFC .w4 ∧ ReadsAt (.rdINTSTS 0 .w4) 0x24 .w4 ∧
    Width.bytes .w4 = Target.width (.reg (.glob .intsts)) :=
  ⟨.inl ⟨_, _, rfl, rfl⟩, .inr ⟨_, rfl, rfl⟩, .inl ⟨_, _, rfl, rfl⟩, rfl⟩

/-- No engine armed; and one armed, with the least of the times its last transfer's, and the present (R340). -/
theorem witness_WallClock :
    (∀ n, (awake.dmaOf n).running = false) ∧
    ((∃ n, ((armed 4 []).dmaOf n).running = true) ∧ 0 ≤ (armed 4 []).now ∧
      (∀ n, ((armed 4 []).dmaOf n).running = true → 0 ≤ ((armed 4 []).dmaOf n).tsLast) ∧
      ∃ n, ((armed 4 []).dmaOf n).running = true ∧ 0 = ((armed 4 []).dmaOf n).tsLast) ∧
    let s := (armed 4 []).setDma 4 { (armed 4 []).dmaOf 4 with tsLast := 20833 }
    (∃ n, (s.dmaOf n).running = true) ∧ s.now ≤ s.now ∧
      ∀ n, (s.dmaOf n).running = true → s.now ≤ (s.dmaOf n).tsLast := by decide +kernel

theorem witness_InterruptStatus :
    let s := withRegs awake [(.str .sts 7, 0x24), (.str .ctl 7, 0x04), (.glob .statests, 1), (.glob .wakeen, 1)]
    s.regs.intsts = 0xC0000080 := by decide +kernel

theorem witness_LineFormula :
    let s := withRegs awake [(.str .sts 7, 0x24), (.str .ctl 7, 0x04), (.glob .intctl, 0x80000080)]
    let t := withRegs awake [(.glob .statests, 1), (.glob .wakeen, 1), (.glob .intctl, 0xC0000000)]
    s.regs.line = true ∧ t.regs.line = true := by decide +kernel

/-- The two ends of a write: no kick, and a kick with the inline drain. -/
theorem witness_EndOfWrite :
    awake.corbKick = false ∧ kicked.cfg.inlineDrain = false ∧
    (let s := { kicked with cfg := { Config.default with inlineDrain := true } }
     s.corbKick = true ∧ s.cfg.inlineDrain = true) := by decide +kernel

theorem witness_TransactionsComplete :
    ReadsAt (.rdGCTL 3 .w2) 0xB .w2 ∧ WritesAt (.wrGCAP 1 .w1 3) 1 .w1 3 ∧ WritesAt (.wrUnmapped 0x3FFF .w1 3) 0x3FFF .w1 3 ∧
    State.reset.cfg.inlineDrain = false ∧ ¬ inResponseRing awake 0x10000 :=
  ⟨.inl ⟨_, _, rfl, rfl⟩, .inl ⟨_, _, rfl, rfl⟩, .inr ⟨_, rfl, rfl⟩, rfl, by unfold inResponseRing; decide +kernel⟩

theorem witness_UnmappedWrite :
    WritesAt (.wrUnmapped 0x1C .w4 0) 0x1C .w4 0 ∧ (∀ j < 4, decodeByte (0x1C + j) = none) ∧
    ∃ t, exec (.wrUnmapped 0x1C .w4 0) awake = .next t :=
  ⟨.inr ⟨_, rfl, rfl⟩, by decide +kernel, next_of_goes _ (by decide +kernel)⟩

theorem witness_ReservedBits :
    (Instr.wrWAKEEN 1 .w1 0x80).form = .wr (.reg (.glob .wakeen)) 1 .w1 0x80 ∧ 1 + Width.bytes .w1 ≤ Target.width (.reg (.glob .wakeen)) ∧
    awake.regs.crst = true ∧ ∃ t, exec (.wrWAKEEN 1 .w1 0x80) awake = .next t :=
  ⟨rfl, by decide, by decide +kernel, next_of_goes _ (by decide +kernel)⟩

theorem witness_ReadOnlyWrite : RowWrite (.wrSD3LPIBAlias 0 .w4 7) awake (.str .lpib 3) 7 ∧ RowWrite (.wrGCAP 0 .w2 7) awake (.glob .gcap) 7 :=
  ⟨⟨.inl (by decide +kernel), _, _, _, _, rfl, rfl, by decide, by decide +kernel⟩,
    ⟨.inl (by decide +kernel), _, _, _, _, rfl, rfl, by decide, by decide +kernel⟩⟩

theorem witness_PlainWrite : RowWrite (.wrRINTCNT 0 .w2 7) awake (.glob .rintcnt) 7 :=
  ⟨.inl (by decide +kernel), _, _, _, _, rfl, rfl, by decide, by decide +kernel⟩

theorem witness_PlainRoundTrip :
    awake.regs.run 7 = false ∧ Width.bytes .w2 = Reg.width (.str .lvi 7) ∧ (Instr.wrSD7LVI 0 .w2 3).form = .wr (.reg (.str .lvi 7)) 0 .w2 3 ∧
    (∃ t, exec (.wrSD7LVI 0 .w2 3) awake = .next t ∧ ∃ u, exec (.rdSD7LVI 0 .w2) t = .next u) ∧
    awake.regs.crst = true ∧ Width.bytes .w4 = Reg.width (.glob .corblbase) ∧ BitVec.toNat (0xFFFFFFFF#32) < 2 ^ (8 * Width.bytes .w4) ∧
    (Instr.wrCORBLBASE 0 .w4 0xFFFFFFFF).form = .wr (.reg (.glob .corblbase)) 0 .w4 0xFFFFFFFF ∧
    (Instr.rdCORBLBASE 0 .w4).form = .rd (.reg (.glob .corblbase)) 0 .w4 ∧
    ∃ t, exec (.wrCORBLBASE 0 .w4 0xFFFFFFFF) awake = .next t ∧ ∃ u, exec (.rdCORBLBASE 0 .w4) t = .next u :=
  ⟨by decide +kernel, rfl, rfl, ⟨_, rfl, _, rfl⟩, by decide +kernel, rfl, by decide, rfl, rfl, _, rfl, _, rfl⟩

/-- A write below GCTL, and one right behind it. -/
theorem witness_HeldInReset :
    State.reset.regs.crst = false ∧ WritesAt (.wrOUTPAY 0 .w4 1) 4 .w4 1 ∧
    (∀ j < 4, ∀ k < 4, decodeByte (4 + j) ≠ some (.glob .gctl, k)) ∧
    (Instr.wrWAKEEN 0 .w2 1).form = .wr (.reg (.glob .wakeen)) 0 .w2 1 ∧ 0 + Width.bytes .w2 ≤ Target.width (.reg (.glob .wakeen)) :=
  ⟨by decide +kernel, .inl ⟨_, _, rfl, rfl⟩, by decide +kernel, rfl, by decide⟩

theorem witness_EnterReset :
    RowWrite (.wrGCTL 0 .w1 0xFE) awake (.glob .gctl) 0xFE ∧ awake.regs.crst = true ∧ (0xFE#32).getLsbD 0 = false :=
  ⟨⟨.inr rfl, _, _, _, _, rfl, rfl, by decide, by decide +kernel⟩, by decide +kernel, by decide⟩

/-- The three other writes of GCTL. -/
theorem witness_LeaveReset :
    (RowWrite (.wrGCTL 0 .w4 1) State.reset (.glob .gctl) 1 ∧ State.reset.regs.crst = false ∧ (1#32).getLsbD 0 = true) ∧
    (RowWrite (.wrGCTL 0 .w4 0x101) awake (.glob .gctl) 0x101 ∧ awake.regs.crst = true) ∧
    RowWrite (.wrGCTL 0 .w4 0) State.reset (.glob .gctl) 0 :=
  ⟨⟨⟨.inr rfl, _, _, _, _, rfl, rfl, by decide, by decide +kernel⟩, by decide +kernel, by decide⟩,
    ⟨⟨.inr rfl, _, _, _, _, rfl, rfl, by decide, by decide +kernel⟩, by decide +kernel⟩,
    ⟨.inr rfl, _, _, _, _, rfl, rfl, by decide, by decide +kernel⟩⟩

theorem witness_EnableWrites : RowWrite (.wrINTCTL 3 .w1 0x80) awake (.glob .intctl) 0x80000000 :=
  ⟨.inl (by decide +kernel), _, _, _, _, rfl, rfl, by decide, by decide +kernel⟩

theorem witness_ClearingWrites :
    RowWrite (.wrRIRBSTS 0 .w1 5) awake (.glob .rirbsts) 5 ∧
    (let s := withRegs awake [(.glob .statests, 0x7FFF)]
     s.regs.crst = true ∧ s.reg (.glob .statests) &&& ~~~0x7FFF = 0 ∧ (∃ t, exec (.wrSTATESTS 0 .w1 1) s = .next t) ∧
       ∃ t, exec (.wrSTATESTS 1 .w1 1) s = .next t) :=
  ⟨⟨.inl (by decide +kernel), _, _, _, _, rfl, rfl, by decide, by decide +kernel⟩, by decide +kernel, by decide +kernel,
    ⟨_, rfl⟩, _, rfl⟩

theorem witness_CorbwpWrite : RowWrite (.wrCORBWP 0 .w2 2) kicked (.glob .corbwp) 2 ∧ kicked.regs.corbRun = true :=
  ⟨⟨.inl (by decide +kernel), _, _, _, _, rfl, rfl, by decide, by decide +kernel⟩, by decide +kernel⟩

/-- The request while Running, the request while stopped, the acknowledgement, neither. -/
theorem witness_CorbrpWrite :
    let request := (0x8000#32).getLsbD 15
    let held := withRegs awake [(.glob .corbrp, 0x8000)]
    (RowWrite (.wrCORBRP 0 .w2 0x8000) kicked (.glob .corbrp) 0x8000 ∧ request = true ∧ kicked.regs.corbRun = true) ∧
    (RowWrite (.wrCORBRP 0 .w2 0x8000) awake (.glob .corbrp) 0x8000 ∧ awake.regs.corbRun = false) ∧
    (RowWrite (.wrCORBRP 0 .w2 0) held (.glob .corbrp) 0 ∧ held.regs.corbRst = true) ∧
    (RowWrite (.wrCORBRP 0 .w2 0) awake (.glob .corbrp) 0 ∧ awake.regs.corbRst = false) :=
  ⟨⟨⟨.inl (by decide +kernel), _, _, _, _, rfl, rfl, by decide, by decide +kernel⟩, by decide, by decide +kernel⟩,
    ⟨⟨.inl (by decide +kernel), _, _, _, _, rfl, rfl, by decide, by decide +kernel⟩, by decide +kernel⟩,
    ⟨⟨.inl (by decide +kernel), _, _, _, _, rfl, rfl, by decide, by decide +kernel⟩, by decide +kernel⟩,
    ⟨⟨.inl (by decide +kernel), _, _, _, _, rfl, rfl, by decide, by decide +kernel⟩, by decide +kernel⟩⟩

theorem witness_CorbctlWrite : RowWrite (.wrCORBCTL 0 .w1 2) awake (.glob .corbctl) 2 :=
  ⟨.inl (by decide +kernel), _, _, _, _, rfl, rfl, by decide, by decide +kernel⟩

/-- Ignored for an active engine, ignored for code 3, stored. -/
theorem witness_RingSizeWrites :
    (RowWrite (.wrCORBSIZE 0 .w1 1) kicked (.glob .corbsize) 1 ∧ kicked.regs.corbRun = true) ∧
    (RowWrite (.wrCORBSIZE 0 .w1 3) awake (.glob .corbsize) 3 ∧ awake.regs.corbRun = false) ∧
    (RowWrite (.wrRIRBSIZE 0 .w1 1) kicked (.glob .rirbsize) 1 ∧ kicked.regs.rirbDmaen = true) ∧
    (RowWrite (.wrRIRBSIZE 0 .w1 0) awake (.glob .rirbsize) 0 ∧ awake.regs.rirbDmaen = false) :=
  ⟨⟨⟨.inl (by decide +kernel), _, _, _, _, rfl, rfl, by decide, by decide +kernel⟩, by decide +kernel⟩,
    ⟨⟨.inl (by decide +kernel), _, _, _, _, rfl, rfl, by decide, by decide +kernel⟩, by decide +kernel⟩,
    ⟨⟨.inl (by decide +kernel), _, _, _, _, rfl, rfl, by decide, by decide +kernel⟩, by decide +kernel⟩,
    ⟨⟨.inl (by decide +kernel), _, _, _, _, rfl, rfl, by decide, by decide +kernel⟩, by decide +kernel⟩⟩

theorem witness_RirbwpWrite :
    (RowWrite (.wrRIRBWP 0 .w2 0x8000) awake (.glob .rirbwp) 0x8000 ∧ awake.regs.rirbDmaen = false) ∧
    RowWrite (.wrRIRBWP 0 .w2 0x8000) kicked (.glob .rirbwp) 0x8000 ∧ kicked.regs.rirbDmaen = true :=
  ⟨⟨⟨.inl (by decide +kernel), _, _, _, _, rfl, rfl, by decide, by decide +kernel⟩, by decide +kernel⟩,
    ⟨.inl (by decide +kernel), _, _, _, _, rfl, rfl, by decide, by decide +kernel⟩, by decide +kernel⟩

/-- Entering Reset from a running stream, and a second write in Reset. -/
theorem witness_StreamReset :
    let held := withRegs awake [(.str .ctl 0, 0x040001)]
    (RowWrite (.wrSD4CTL 0 .w3 1) (armed 4 []) (.str .ctl 4) 1 ∧ (1#32).getLsbD 0 = true ∧ (armed 4 []).regs.srst 4 = false) ∧
    RowWrite (.wrSD0CTL 0 .w3 1) held (.str .ctl 0) 1 ∧ held.regs.srst 0 = true :=
  ⟨⟨⟨.inl (by decide +kernel), _, _, _, _, rfl, rfl, by decide, by decide +kernel⟩, by decide, by decide +kernel⟩,
    ⟨.inl (by decide +kernel), _, _, _, _, rfl, rfl, by decide, by decide +kernel⟩, by decide +kernel⟩

/-- RUN as it is, and RUN cleared. -/
theorem witness_StreamStop :
    (RowWrite (.wrSD4CTL 0 .w3 2) (armed 4 []) (.str .ctl 4) 2 ∧ (2#32).getLsbD 0 = false ∧
      (2#32).getLsbD 1 = (armed 4 []).regs.run 4) ∧
    RowWrite (.wrSD4CTL 0 .w3 0) (armed 4 []) (.str .ctl 4) 0 ∧ (0#32).getLsbD 1 = false ∧ (armed 4 []).regs.run 4 = true :=
  ⟨⟨⟨.inl (by decide +kernel), _, _, _, _, rfl, rfl, by decide, by decide +kernel⟩, by decide, by decide +kernel⟩,
    ⟨.inl (by decide +kernel), _, _, _, _, rfl, rfl, by decide, by decide +kernel⟩, by decide, by decide +kernel⟩

/-- The list that `stopped` holds in guest memory, as R262 reads it. -/
theorem witness_listRead (f : RegFile) (n : Stream) (bytes : List Byte) (hc : f.entryCount n = 2)
    (h : decodeBdl bytes 2 = twoEntries) : ListRead f n bytes twoEntries := by
  refine ⟨by rw [hc]; rfl, fun i hi => ?_⟩
  rw [hc] at hi
  rw [← h]
  match i, hi with
  | 0, _ => simp [decodeBdl, decodeBdle, bdleBytes, slice, List.drop_take, List.take_take]
  | 1, _ => simp [decodeBdl, decodeBdle, bdleBytes, slice, List.drop_take, List.take_take]

theorem witness_StreamStart :
    let s := stopped 4
    ∃ bytes, RowWrite (.wrSD4CTL 0 .w3 0x100002) s (.str .ctl 4) 0x100002 ∧ (0x100002#32).getLsbD 0 = false ∧
      (0x100002#32).getLsbD 1 = true ∧ s.regs.run 4 = false ∧
      s.mem.read (s.regs.bdlBase 4) (16 * s.regs.entryCount 4) = some bytes ∧ ListRead s.regs 4 bytes twoEntries ∧
      StartOk s 4 twoEntries stereo :=
  ⟨_, ⟨.inl (by decide +kernel), _, _, _, _, rfl, rfl, by decide, by decide +kernel⟩, by decide, by decide, by decide +kernel,
    Option.eq_some_of_isSome (by decide +kernel), witness_listRead _ 4 _ (by decide +kernel) (by decide +kernel),
    by decide +kernel, by decide +kernel, by decide +kernel, by decide +kernel⟩

/-- The list is not backed; and the list does not meet a precondition. -/
theorem witness_StartRefused :
    (let s := { stopped 4 with mem := [] }
     RowWrite (.wrSD4CTL 0 .w3 0x100002) s (.str .ctl 4) 0x100002 ∧ s.regs.run 4 = false ∧
       s.mem.read (s.regs.bdlBase 4) (16 * s.regs.entryCount 4) = none) ∧
    (let s := (stopped 4).setReg (.str .fmt 4) 0x2000
     RowWrite (.wrSD4CTL 0 .w3 0x100002) s (.str .ctl 4) 0x100002 ∧ s.regs.run 4 = false ∧
       ∃ bytes, s.mem.read (s.regs.bdlBase 4) (16 * s.regs.entryCount 4) = some bytes ∧
         ListRead s.regs 4 bytes twoEntries ∧ ¬ ∃ fmt, StartOk s 4 twoEntries fmt) := by
  refine ⟨⟨⟨.inl (by decide +kernel), _, _, _, _, rfl, rfl, by decide, by decide +kernel⟩, by decide +kernel, by decide +kernel⟩,
    ⟨.inl (by decide +kernel), _, _, _, _, rfl, rfl, by decide, by decide +kernel⟩, by decide +kernel, _,
      Option.eq_some_of_isSome (by decide +kernel), witness_listRead _ 4 _ (by decide +kernel) (by decide +kernel), ?_⟩
  rintro ⟨fmt, -, -, -, h⟩
  have hn : decodeFmt (((stopped 4).setReg (.str .fmt 4) 0x2000).reg (.str .fmt 4)) = none := by decide +kernel
  rw [hn] at h
  cases h

theorem witness_StatusWrite :
    RowWrite (.wrSD4STS 0 .w1 4) (armed 4 []) (.str .sts 4) 4 ∧ RowWrite (.wrSD0STS 0 .w1 0x18) awake (.str .sts 0) 0x18 :=
  ⟨⟨.inl (by decide +kernel), _, _, _, _, rfl, rfl, by decide, by decide +kernel⟩,
    ⟨.inl (by decide +kernel), _, _, _, _, rfl, rfl, by decide, by decide +kernel⟩⟩

theorem witness_GuardedWrite :
    RowWrite (.wrSD4CBL 0 .w4 8) (armed 4 []) (.str .cbl 4) 8 ∧ (armed 4 []).regs.run 4 = true ∧
    RowWrite (.wrSD7BDPU 0 .w4 8) awake (.str .bdpu 7) 8 ∧ awake.regs.run 7 = false :=
  ⟨⟨.inl (by decide +kernel), _, _, _, _, rfl, rfl, by decide, by decide +kernel⟩, by decide +kernel,
    ⟨.inl (by decide +kernel), _, _, _, _, rfl, rfl, by decide, by decide +kernel⟩, by decide +kernel⟩

/-- SDCTL with SDSTS: reset, reset again, RUN as it is, RUN cleared; a start that arms the engine, one whose list is not
backed, one whose list does not meet a precondition. -/
theorem witness_SpanningWrites_stream :
    let held := withRegs awake [(.str .ctl 0, 0x040001)]
    let unread := { stopped 4 with mem := [] }
    let unfit := (stopped 4).setReg (.str .fmt 4) 0x2000
    (∀ v, (Instr.wrSD4CTL 0 .w4 v).form = .wr (.reg (.str .ctl 4)) 0 .w4 v) ∧
    ((armed 4 []).regs.crst = true ∧ (0x24000001#32).getLsbD 0 = true ∧ (armed 4 []).regs.srst 4 = false) ∧
    (held.regs.crst = true ∧ held.regs.srst 0 = true) ∧
    ((0x24140002#32).getLsbD 0 = false ∧ (0x24140002#32).getLsbD 1 = (armed 4 []).regs.run 4) ∧
    ((0x24140000#32).getLsbD 0 = false ∧ (0x24140000#32).getLsbD 1 = false ∧ (armed 4 []).regs.run 4 = true) ∧
    ((stopped 4).regs.crst = true ∧ (0x14100002#32).getLsbD 0 = false ∧ (0x14100002#32).getLsbD 1 = true ∧
      (stopped 4).regs.run 4 = false ∧
      ∃ bytes, (stopped 4).mem.read ((stopped 4).regs.bdlBase 4) (16 * (stopped 4).regs.entryCount 4) = some bytes ∧
        ListRead (stopped 4).regs 4 bytes twoEntries ∧ StartOk (stopped 4) 4 twoEntries stereo) ∧
    (unread.regs.crst = true ∧ unread.regs.run 4 = false ∧
      unread.mem.read (unread.regs.bdlBase 4) (16 * unread.regs.entryCount 4) = none) ∧
    (unfit.regs.crst = true ∧ unfit.regs.run 4 = false ∧
      ∃ bytes, unfit.mem.read (unfit.regs.bdlBase 4) (16 * unfit.regs.entryCount 4) = some bytes ∧
        ListRead unfit.regs 4 bytes twoEntries ∧ ¬ ∃ fmt, StartOk unfit 4 twoEntries fmt) := by
  refine ⟨fun _ => rfl, by decide +kernel, by decide +kernel, by decide +kernel, by decide +kernel,
    ⟨by decide +kernel, by decide, by decide, by decide +kernel, _, Option.eq_some_of_isSome (by decide +kernel),
      witness_listRead _ 4 _ (by decide +kernel) (by decide +kernel),
      ⟨by decide +kernel, by decide +kernel, by decide +kernel, by decide +kernel⟩⟩,
    by decide +kernel,
    ⟨by decide +kernel, by decide +kernel, _, Option.eq_some_of_isSome (by decide +kernel),
      witness_listRead _ 4 _ (by decide +kernel) (by decide +kernel), ?_⟩⟩
  rintro ⟨fmt, -, -, -, h⟩
  have hn : decodeFmt (((stopped 4).setReg (.str .fmt 4) 0x2000).reg (.str .fmt 4)) = none := by decide +kernel
  rw [hn] at h
  cases h

/-- The ring registers and WAKEEN: engines that run and that do not; a pointer reset that is held and one that is not. -/
theorem witness_SpanningWrites_rings :
    let held := withRegs awake [(.glob .corbrp, 0x8000)]
    (awake.regs.crst = true ∧ awake.regs.corbRun = false ∧ awake.regs.corbRst = false ∧ awake.regs.rirbDmaen = false) ∧
    (kicked.regs.crst = true ∧ kicked.regs.corbRun = true ∧ kicked.regs.rirbDmaen = true) ∧
    held.regs.crst = true ∧ held.regs.corbRst = true := by decide +kernel

theorem witness_RestrictedWhileRunning :
    (armed 4 []).regs.run 4 = true ∧ ∃ t, exec (.wrSD4CBL 0 .w4 8) (armed 4 []) = .next t ∧ t.regs.run 4 = true :=
  ⟨by decide +kernel, _, rfl, by decide +kernel⟩

/-- No kick; a kick of a stopped engine; a kick of one that runs. -/
theorem witness_DrainOutcome :
    awake.corbKick = false ∧ ({ awake with corbKick := true }.regs.corbRun = false) ∧
    (kicked.corbKick = true ∧ kicked.regs.corbRun = true ∧ kicked.regs.corbRst = false) ∧ ¬ inResponseRing kicked 0x2010 :=
  ⟨by decide +kernel, by decide +kernel, by decide +kernel, by unfold inResponseRing; decide +kernel⟩

/-- One command is outstanding; its response is not suppressed. -/
theorem witness_DrainFifo :
    kicked.corbKick = true ∧ kicked.regs.corbRun = true ∧ kicked.regs.corbRst = false ∧ kicked.regs.pointersOk ∧
    outstanding kicked = 1 ∧ ∀ k < 1, suppressedAt kicked k = false :=
  ⟨by decide +kernel, by decide +kernel, by decide +kernel, ⟨by decide +kernel, by decide +kernel, by decide +kernel⟩,
    by decide +kernel, by decide +kernel⟩

theorem witness_DrainSuppressed :
    let s := { kicked with oracle := { Oracle.fresh with codec := [some 0x1000000022] } }
    s.corbKick = true ∧ s.regs.corbRun = true ∧ s.regs.corbRst = false ∧ s.regs.pointersOk ∧ 0 < outstanding s ∧
      suppressedAt s 0 = true ∧ s.respPending + 0 < s.regs.threshold :=
  ⟨by decide +kernel, by decide +kernel, by decide +kernel, ⟨by decide +kernel, by decide +kernel, by decide +kernel⟩,
    by decide +kernel, by decide +kernel, by decide +kernel⟩

theorem witness_ResponseRing :
    kicked.mem.read kicked.regs.rirbBase (8 * kicked.regs.rirbCap) ≠ none ∧
    awake.mem.read awake.regs.rirbBase (8 * awake.regs.rirbCap) = none ∧
    ¬ inResponseRing kicked 0x1FFF ∧ inResponseRing kicked 0x2000 ∧ inResponseRing kicked 0x200F ∧
    ¬ inResponseRing kicked 0x2010 := by
  unfold inResponseRing
  decide +kernel

theorem witness_Grouping :
    (groups twoEntries)[0]? = some ⟨0, 2, 4⟩ ∧ (buildSchedule Config.default twoEntries stereo)[0]? = some ⟨20833, 4, 1, 0, 2⟩ := by
  decide +kernel

theorem witness_ScheduleSum : twoEntries.length = (stopped 4).regs.entryCount 4 ∧ StartOk (stopped 4) 4 twoEntries stereo :=
  ⟨by decide +kernel, by decide +kernel, by decide +kernel, by decide +kernel, by decide +kernel⟩

/-- A stream in order, from the data. -/
theorem witness_streamOk (s : State) (n : Stream)
    (h : (s.regs.srst n = false ∧ s.regs.run n = true ∧ s.regs.crst = true ∧ (s.dmaOf n).inReset = false) ∧
      (s.regs.rd (.str .lpib n)).toNat < s.regs.cbl n ∧ (s.dmaOf n).bdl.length = s.regs.entryCount n ∧
      totalLen (s.dmaOf n).bdl = s.regs.cbl n ∧ decodeFmt (s.regs.rd (.str .fmt n)) = some stereo ∧
      (s.dmaOf n).sched = buildSchedule s.cfg (s.dmaOf n).bdl stereo ∧
      (∃ st ∈ (s.dmaOf n).sched[(s.dmaOf n).schedIdx]?, (s.dmaOf n).schedLoop < st.loops) ∧
      (s.dmaOf n).curEntry < s.regs.entryCount n ∧ (s.dmaOf n).running = true ∧
      (s.dmaOf n).ring.length ≤ s.cfg.ringBytes.get n) : StreamOk s n := by
  obtain ⟨⟨h1, h2, h3, h4⟩, h5, h6, h7, h8, h9, ⟨st, h10, h10'⟩, h11, h12, h13⟩ := h
  exact ⟨⟨fun h => by simp [h1] at h, fun _ => .inr h5⟩, h4.trans h1.symm,
    fun _ => ⟨h3, h2, h1, h6, h7, by omega, ⟨stereo, h8, h9⟩, ⟨st, h10, h10'⟩, h11, h5⟩,
    fun h => by simp [h12] at h, h13⟩

theorem witness_armed_output : StreamOk (armed 4 []) 4 := witness_streamOk _ _ (by decide +kernel)

theorem witness_armed_input : StreamOk (armed 0 [9, 8, 7, 6]) 0 := witness_streamOk _ _ (by decide +kernel)

/-- Not due; and due with a ring that cannot supply the step. -/
theorem witness_TickSkipped :
    ¬ ((awake.dmaOf 4).running = true ∧ (awake.dmaOf 4).tsNext ≤ awake.now) ∧
    TickDue (armed 0 []) 0 ⟨20833, 4, 1, 0, 2⟩ ∧ MustSkip (armed 0 []) 0 ⟨20833, 4, 1, 0, 2⟩ :=
  ⟨by decide +kernel, ⟨witness_streamOk _ _ (by decide +kernel), by decide +kernel, by decide +kernel, by decide +kernel⟩,
    .inr (.inl (by decide +kernel))⟩

/-- An output and an input stream, with every byte of the step backed; the last execution of the step. -/
theorem witness_TickMoves :
    (MemoryOk (armed 4 []) ∧ TickDue (armed 4 []) 4 ⟨20833, 4, 1, 0, 2⟩ ∧ ¬ MustSkip (armed 4 []) 4 ⟨20833, 4, 1, 0, 2⟩ ∧
      ∀ a ∈ nextAddrs (armed 4 []) 4 4, (armed 4 []).mem.byte a ≠ none) ∧
    MemoryOk (armed 0 [9, 8, 7, 6]) ∧ TickDue (armed 0 [9, 8, 7, 6]) 0 ⟨20833, 4, 1, 0, 2⟩ ∧
      ¬ MustSkip (armed 0 [9, 8, 7, 6]) 0 ⟨20833, 4, 1, 0, 2⟩ ∧
      ∀ a ∈ nextAddrs (armed 0 [9, 8, 7, 6]) 0 4, (armed 0 [9, 8, 7, 6]).mem.byte a ≠ none := by
  refine ⟨⟨?_, ⟨witness_armed_output, ?_, ?_, ?_⟩, ?_, ?_⟩, ?_, ⟨witness_armed_input, ?_, ?_, ?_⟩, ?_, ?_⟩ <;>
    first | decide +kernel | (unfold MustSkip; decide +kernel) | (unfold MemoryOk; decide +kernel)

/-- The same with a step that is executed twice: after the first execution the position is inside the list. -/
theorem witness_TickMoves_loop :
    let s := { (streamRegsOf 4 0x140006).setDma 4
        { Dma.reset with
          running := true, bdl := twoEntries, sched := [⟨10416, 2, 2, 0, 2⟩], tsNext := 0, sinkOk := true } with
      cfg := { Config.default with splits := [(4, 2)] }, mem := bytesAt 0x100 [1, 2] ++ bytesAt 0x110 [3, 4] }
    TickDue s 4 ⟨10416, 2, 2, 0, 2⟩ ∧ (s.dmaOf 4).schedLoop + 1 ≠ 2 ∧ ∀ a ∈ nextAddrs s 4 2, s.mem.byte a ≠ none :=
  ⟨⟨witness_streamOk _ _ (by decide +kernel), by decide +kernel, by decide +kernel, by decide +kernel⟩, by decide +kernel,
    by decide +kernel⟩

/-- An input stream of whose two accesses the first lands; and an output stream, of which nothing lands. -/
theorem witness_TickAborts :
    let s := armedUnbacked 0 [9, 8, 7, 6]
    let p := armedUnbacked 4 []
    (MemoryOk s ∧ TickDue s 0 ⟨20833, 4, 1, 0, 2⟩ ∧ ¬ MustSkip s 0 ⟨20833, 4, 1, 0, 2⟩ ∧
      (∃ a ∈ nextAddrs s 0 4, s.mem.byte a = none) ∧ accesses s 0 4 = [(0x100, 2), (0x110, 2), (0x100, 0)] ∧
      bytesLanded s 0 4 = 2) ∧
    MemoryOk p ∧ TickDue p 4 ⟨20833, 4, 1, 0, 2⟩ ∧ ¬ MustSkip p 4 ⟨20833, 4, 1, 0, 2⟩ ∧
      (∃ a ∈ nextAddrs p 4 4, p.mem.byte a = none) ∧ bytesLanded p 4 4 = 0 := by
  refine ⟨⟨?_, ⟨witness_streamOk _ _ (by decide +kernel), ?_, ?_, ?_⟩, ?_, ?_, ?_, ?_⟩, ?_,
    ⟨witness_streamOk _ _ (by decide +kernel), ?_, ?_, ?_⟩, ?_, ?_, ?_⟩ <;>
    first | decide +kernel | (unfold MustSkip; decide +kernel) | (unfold MemoryOk; decide +kernel)

theorem witness_TimeAndSave :
    State.reset.now + (0xFFFFFFFF#32).toNat < 2 ^ 64 ∧ 2 ^ 64 ≤ { State.reset with now := 2 ^ 64 - 1 }.now + (1#32).toNat := by
  decide +kernel

/-- Idle; a recording and a playing stream. -/
theorem witness_SinkMoves :
    ((awake.dmaOf 4).running && (awake.dmaOf 4).sinkOk) = false ∧
    (((armed 0 []).dmaOf 0).running = true ∧ ((armed 0 []).dmaOf 0).sinkOk = true ∧ isInput 0 = true) ∧
    ((armed 4 []).dmaOf 4).running = true ∧ ((armed 4 []).dmaOf 4).sinkOk = true ∧ isInput 4 = false := by decide +kernel

theorem witness_RestoreRoundTrip :
    awake.saved = none ∧ { awake with saved := some (snapshotOf (armed 4 [1])) }.saved = some (snapshotOf (armed 4 [1])) :=
  ⟨rfl, rfl⟩

/-- A record of a playing stream applied to a reset controller: its list readable, and not; a position outside the list. -/
theorem witness_RestoreRearms :
    let r := snapshotOf (armed 4 [1])
    let u := { State.reset with saved := some r, mem := (stopped 4).mem }
    let outside := { r with perStream := r.perStream.set 4 ⟨2, 0, false, 0⟩ }
    u.saved = some r ∧
    (r.regs.crst = true ∧ r.regs.srst 4 = false ∧ r.regs.run 4 = true) ∧
    ¬ (r.regs.crst = true ∧ r.regs.srst 5 = false ∧ r.regs.run 5 = true) ∧
    State.reset.mem.read (r.regs.bdlBase 4) (16 * r.regs.entryCount 4) = none ∧
    (∃ bytes, u.mem.read (r.regs.bdlBase 4) (16 * r.regs.entryCount 4) = some bytes ∧ ListRead r.regs 4 bytes twoEntries) ∧
    SavedInside r 4 twoEntries ∧ StartOk { u with regs := r.regs } 4 twoEntries stereo ∧ ¬ SavedInside outside 4 twoEntries ∧
    outside.regs = r.regs := by
  refine ⟨rfl, by decide +kernel, by decide +kernel, by decide +kernel,
    ⟨_, Option.eq_some_of_isSome (by decide +kernel), witness_listRead _ 4 _ (by decide +kernel) (by decide +kernel)⟩,
    ⟨⟨0x100, 2, false⟩, by decide +kernel, by decide +kernel⟩,
    ⟨by decide +kernel, by decide +kernel, by decide +kernel, by decide +kernel⟩, ?_, rfl⟩
  have h : twoEntries[((({ snapshotOf (armed 4 [1]) with
      perStream := (snapshotOf (armed 4 [1])).perStream.set 4 ⟨2, 0, false, 0⟩ } : Snapshot).perStream.get 4).curEntry)]? = none := by
    decide +kernel
  rintro ⟨e, he, -⟩
  rw [h] at he
  cases he

/-- A playing stream with its TICK next: the state that the invariants of the streams are about. -/
def ticking : State := (armed 4 []).withFetchWord 64 0x3400000000000000

theorem witness_ticking : ∃ t, step ticking = .next t := next_of_goes _ (by decide +kernel)

theorem witness_MemoryInvariant : MemoryOk ticking := by unfold MemoryOk; decide +kernel

theorem witness_WireInvariant : WireOk ticking ∧ WireHistoryOk ticking := by
  refine ⟨⟨by decide +kernel, ?_⟩, by unfold WireHistoryOk; decide +kernel⟩
  intro r h
  cases h

theorem witness_RegistersInvariant : RingsOk ticking ∧ RegistersOk ticking := by
  refine ⟨⟨⟨by decide +kernel, by decide +kernel, by decide +kernel⟩, by decide +kernel, fun r h => by cases h⟩,
    ⟨?_, ?_, ?_, by decide +kernel, by decide +kernel⟩, fun r h => by cases h⟩
  · have h : ∀ r ∈ allRegs, ticking.regs.rd r &&& ~~~r.rmask = 0 := by decide +kernel
    exact fun r => h r r.mem_allRegs
  · have h : ∀ r ∈ allRegs, r.constant = true → ticking.regs.rd r = r.resetVal := by decide +kernel
    exact fun r => h r r.mem_allRegs
  · have h : ∀ r ∈ allRegs, ticking.regs.rd r &&& r.fixedBits = r.resetVal &&& r.fixedBits := by decide +kernel
    exact fun r => h r r.mem_allRegs

theorem witness_StreamsInvariant : StreamsOk ticking := by
  refine ⟨fun n => ?_, fun r h => by cases h⟩
  by_cases h : n = 4
  · subst h
    exact witness_streamOk _ _ (by decide +kernel)
  · have hd : ∀ n : Stream, n ≠ 4 → ticking.regs.srst n = false ∧ ticking.regs.run n = false ∧
        (ticking.dmaOf n).running = false ∧ (ticking.dmaOf n).ring = [] ∧ (ticking.dmaOf n).inReset = false := by decide +kernel
    obtain ⟨h1, h2, h3, h4, h5⟩ := hd n h
    exact ⟨⟨fun _ => h2, fun h => by simp [h2] at h⟩, h5.trans h1.symm, fun h => by simp [h3] at h, fun _ => h4,
      by rw [h4]; exact Nat.zero_le _⟩

/-- A controller held in reset, with a write of GCTL next. -/
theorem witness_HeldInvariant :
    let s := State.reset.withFetchWord 64 0x1400000800000001
    HeldOk s ∧ s.regs.crst = false ∧ ∃ t, step s = .next t := by
  refine ⟨⟨fun _ => ⟨?_, by decide +kernel, by decide +kernel⟩, fun r h => by cases h⟩, by decide +kernel,
    next_of_goes _ (by decide +kernel)⟩
  have h : ∀ r ∈ allRegs, (State.reset.withFetchWord 64 0x1400000800000001).regs.rd r = r.resetVal := by decide +kernel
  exact fun r => h r r.mem_allRegs


end Sys2Proof.Tests
end

section
/-! What no operation changes (00_scope.md R5, 20_memory.md R75, 45_host_ops.md R300, R308): each operation's frame
holds the parameters, the sequence, the time base, the saved record and the backed addresses. -/

namespace Sys2Proof.Machine

/-- From `s` to `t` the parameters, the sequence of operations, the time base, the saved record and the backed
addresses stayed. -/
structure Kept (s t : State) : Prop where
  cfg : t.cfg = s.cfg
  pending : t.pending = s.pending
  now : t.now = s.now
  saved : t.saved = s.saved
  addrs : t.mem.addrs = s.mem.addrs

theorem Kept.refl (s : State) : Kept s s := ⟨rfl, rfl, rfl, rfl, rfl⟩

theorem Kept.trans {s t u : State} (h : Kept s t) (k : Kept t u) : Kept s u :=
  ⟨k.cfg.trans h.cfg, k.pending.trans h.pending, k.now.trans h.now, k.saved.trans h.saved, k.addrs.trans h.addrs⟩

theorem Quiet.kept {s t : State} (h : Quiet s t) : Kept s t :=
  ⟨h.cfg, h.pending, h.now, h.saved, congrArg Memory.addrs h.mem⟩

theorem RingOnly.kept {s t : State} (h : RingOnly s t) : Kept s t := ⟨h.cfg, h.pending, h.now, h.saved, h.addrs⟩

theorem TickOnly.kept {n : Stream} {s t : State} (h : TickOnly n s t) : Kept s t :=
  ⟨h.cfg, h.pending, h.now, h.saved, h.addrs⟩

theorem SinkOnly.kept {n : Stream} {s t : State} (h : SinkOnly n s t) : Kept s t :=
  ⟨h.cfg, h.pending, h.now, h.saved, congrArg Memory.addrs h.mem⟩

/-! ### The operations -/

theorem kept_driveWire (s : State) (level : Bool) : Kept s (s.driveWire level) :=
  ⟨by simp, by simp, by simp, by simp, by simp⟩

theorem kept_irqEval (s : State) : Kept s (irqEval s) := kept_driveWire s _

theorem kept_hostRead (off : Nat) (w : Width) (s : State) : Kept s (hostRead off w s) := by
  rw [hostRead_regs]
  exact ⟨rfl, rfl, rfl, rfl, rfl⟩

theorem kept_drain (s : State) : Kept s (drain s) := by
  have hkick : Kept s { s with corbKick := false } := ⟨rfl, rfl, rfl, rfl, rfl⟩
  rw [drain_eq]
  split
  · exact hkick
  · exact (hkick.trans (ringOnly_drainBody _).kept).trans (kept_irqEval _)

theorem kept_inlineDrain (s : State) : Kept s (inlineDrain s) := by
  unfold inlineDrain
  split
  · exact kept_drain s
  · exact Kept.refl s

theorem kept_hostWrite (off : Nat) (w : Width) (v : Word) (s : State) : Kept s (hostWrite off w v s) := by
  have hpieces := (quiet_writePieces v (pieces off w) s).trans (quiet_noteUnmapped (pieces off w) _)
  exact (hpieces.kept.trans (kept_irqEval _)).trans (kept_inlineDrain _)

theorem kept_restore (r : Snapshot) (s : State) : Kept s (restore r s) := by
  rw [restore_eq]
  exact (quiet_restored r s).kept.trans (kept_driveWire _ _)

theorem kept_poreset (s : State) : Kept s (poreset s) := by
  obtain ⟨_, _, _, _, _, _, _, hnow, hcfg, hmem, hsaved, hpending⟩ := poreset_fields s
  exact ⟨hcfg, hpending, hnow, hsaved, congrArg Memory.addrs hmem⟩

/-- TIME, where it is not refused, moves the time base alone (R300). -/
theorem timeStep_next {d : Word} {s t : State} (h : timeStep d s = .next t) : t = { s with now := s.now + d.toNat } := by
  unfold timeStep at h
  split at h
  · exact (Host.Outcome.next.inj h).symm
  · cases h

/-- Every operation but TIME and SAVE leaves all of it. -/
theorem runForm_kept {f : Form} {s t : State} (h : runForm f s = .next t) (htime : ∀ d, f ≠ .time d)
    (hsave : f ≠ .save) : Kept s t := by
  cases f with
  | rd u lo w => cases h; exact kept_hostRead _ w s
  | wr u lo w v => cases h; exact kept_hostWrite _ w v s
  | rdUnmapped off w => cases h; exact kept_hostRead _ w s
  | wrUnmapped off w v => cases h; exact kept_hostWrite _ w v s
  | drain =>
    simp only [runForm, execDrain] at h
    split at h
    · cases h; exact kept_drain s
    · cases h
  | tick n =>
    simp only [runForm, execTick] at h
    split at h
    · exact (tick_only h).1.kept
    · cases h
  | sink n k =>
    simp only [runForm, execSink] at h
    split at h
    · cases h; exact (sinkStep_only _ _ s).kept
    · cases h
  | time d => exact absurd rfl (htime d)
  | save => exact absurd rfl hsave
  | restore =>
    simp only [runForm, execRestore] at h
    split at h
    · cases h; exact kept_restore _ s
    · cases h
  | poweroff => exact Host.Outcome.next.inj h ▸ (quiet_disableAll s).kept
  | poreset => exact Host.Outcome.next.inj h ▸ kept_poreset s

/-- Settles O6: TIME and SAVE change one field each, every other operation has a frame that keeps all of it. -/
theorem operationsLeaveTheOutside : Obligations.OperationsLeaveTheOutside := by
  intro i s t h
  have hform : Instr.ofForm i.form = i := Instr.ofForm_form i
  rw [exec_eq_runForm] at h
  by_cases htime : ∃ d, i.form = .time d
  · obtain ⟨d, hd⟩ := htime
    have hi : i = .time d := by rw [← hform, hd]; rfl
    rw [hd] at h
    obtain rfl := timeStep_next h
    exact ⟨rfl, rfl, fun hne => absurd hi (hne d), fun _ => rfl, fun _ => rfl⟩
  · by_cases hsave : i.form = .save
    · have hi : i = .save := by rw [← hform, hsave]; rfl
      rw [hsave] at h
      obtain rfl : save s = t := Host.Outcome.next.inj h
      exact ⟨rfl, rfl, fun _ => rfl, fun hne => absurd hi hne, fun _ => rfl⟩
    · have hkept := runForm_kept h (fun d hd => htime ⟨d, hd⟩) hsave
      exact ⟨hkept.cfg, hkept.pending, fun _ => hkept.now, fun _ => hkept.saved, Memory.isSome_congr hkept.addrs⟩

end Sys2Proof.Machine
end

section
/-! A write of a whole register and the read of it (00_scope.md R12, 40_mmio_dispatch.md R131, R135 to R137): what the
write hands to its handler, what the handlers that store under the mask leave, and what the read then shows. -/

namespace Sys2Proof.Machine

/-! ### The bytes of a register -/

theorem decodeByte_reg_all : ∀ r ∈ allRegs, ∀ j : Fin 4, j.val < r.width → decodeByte (r.off + j.val) = some (r, j.val) := by
  decide +kernel

/-- Every byte of a register decodes to it (R103). -/
theorem decodeByte_reg {r : Reg} {j : Nat} (hj : j < r.width) (h4 : j < 4) : decodeByte (r.off + j) = some (r, j) :=
  decodeByte_reg_all r r.mem_allRegs ⟨j, h4⟩ hj

/-- The readable bits of a register are inside its width. -/
theorem rmask_and_fullMask (r : Reg) : r.rmask &&& r.fullMask = r.rmask := by
  have h : ∀ r ∈ allRegs, Reg.rmask r &&& r.fullMask = r.rmask := by decide +kernel
  exact h r r.mem_allRegs

/-- The writable bits of a register are inside its width. -/
theorem wmask_and_fullMask (r : Reg) : r.wmask &&& r.fullMask = r.wmask := by
  have h : ∀ r ∈ allRegs, Reg.wmask r &&& r.fullMask = r.wmask := by decide +kernel
  exact h r r.mem_allRegs

/-- A mask inside a register's width has no bit at or above it. -/
theorem lt_width_of_getLsbD {r : Reg} {m : Word} (h : m &&& r.fullMask = m) {k : Nat} (hk : m.getLsbD k = true) :
    k < 8 * r.width := by
  rw [← h, BitVec.getLsbD_and, Reg.fullMask, BitVec.getLsbD_ofNat, Nat.testBit_two_pow_sub_one] at hk
  simp only [Bool.and_eq_true, decide_eq_true_eq] at hk
  exact hk.2.2

/-- A word is its four bytes. -/
theorem eq_of_byteLane {x y : Word} (h : ∀ j < 4, byteLane x j = byteLane y j) : x = y := by
  apply BitVec.eq_of_getLsbD_eq
  intro k hk
  have hbyte := congrArg (fun b : Byte => b.getLsbD (k % 8)) (h (k / 8) (by omega))
  simp only [byteLane, BitVec.getLsbD_extractLsb'] at hbyte
  rwa [Nat.div_add_mod, decide_eq_true (Nat.mod_lt k (by decide)), Bool.true_and, Bool.true_and] at hbyte

/-- The bytes above a register's width are 0 in a value under a mask inside the width. -/
theorem byteLane_above {r : Reg} {m : Word} (h : m &&& r.fullMask = m) (x : Word) {j : Nat} (hj : r.width ≤ j) :
    byteLane (x &&& m) j = 0 := by
  apply BitVec.eq_of_getLsbD_eq
  intro k hk
  have hm : m.getLsbD (8 * j + k) = false := by
    rw [Bool.eq_false_iff]
    intro hbit
    have := lt_width_of_getLsbD h hbit
    omega
  simp [byteLane, hm]

/-- A read of a whole register returns its value under the readable mask (R131). -/
theorem hostRead_whole {r : Reg} {w : Width} (hw : w.bytes = r.width) (s : State) :
    (hostRead r.off w s).out.readData = shown s r := by
  apply eq_of_byteLane
  intro j hj
  rw [hostRead_bytes _ _ _ _ hj]
  by_cases hlt : j < r.width
  · rw [if_pos (hw ▸ hlt), decodeByte_reg hlt hj]
  · rw [if_neg (hw ▸ hlt)]
    exact (byteLane_above (rmask_and_fullMask r) _ (Nat.le_of_not_lt hlt)).symm

/-! ### The write -/

/-- Under the writable mask the merged value of a write of the whole register is the written value (R136). -/
theorem merged_whole (r : Reg) {w : Width} (hw : w.bytes = r.width) (x v : Word) :
    merged x v ⟨some r, 0, w.bytes - 1, 0⟩ &&& r.wmask = v &&& r.wmask := by
  have hpos : 0 < w.bytes := by cases w <;> decide
  refine merged_low x v (some r) (w.bytes - 1) 0 r.wmask ?_
  intro k _ hk
  have := lt_width_of_getLsbD (wmask_and_fullMask r) hk
  omega

/-- With these registers the handler of `r` stores the writable bits of what it is given; of the other bits the
readable ones stay (R137). -/
def StoresUnderMask (f : RegFile) (r : Reg) : Prop :=
  ∀ (s : State) (val : Word), s.regs = f →
    (writeHandler r val s).regs.rd r &&& r.rmask = ((val &&& r.wmask) ||| (f.rd r &&& ~~~r.wmask)) &&& r.rmask

theorem wPlain_rd_masked (r : Reg) (val : Word) (s : State) :
    (wPlain r val s).regs.rd r &&& r.rmask = ((val &&& r.wmask) ||| (s.regs.rd r &&& ~~~r.wmask)) &&& r.rmask := by
  unfold wPlain
  rw [State.setReg_regs, RegFile.rd_put_same, BitVec.and_assoc, BitVec.and_comm r.fullMask, rmask_and_fullMask,
    State.reg_eq]

theorem storesUnderMask_plain (f : RegFile) {r : Reg} (h : r.desc.wr = .plain) : StoresUnderMask f r := by
  rintro s val rfl
  unfold writeHandler
  rw [h]
  exact wPlain_rd_masked r val s

/-- What is kept outside a mask is not seen under it. -/
theorem or_outside_and (a x m : Word) : (a ||| (x &&& ~~~m)) &&& m = a &&& m := by
  ext i hi
  simp only [BitVec.getElem_and, BitVec.getElem_or, BitVec.getElem_not]
  cases m[i] <;> simp

/-- A handler that stores the written value under the writable mask, where all readable bits are writable. -/
theorem storesUnderMask_masked (f : RegFile) {r : Reg} (hmask : r.rmask = r.wmask)
    (h : ∀ val s, writeHandler r val s = s.setReg r (val &&& r.wmask)) : StoresUnderMask f r := by
  rintro s val rfl
  rw [h, State.setReg_regs, RegFile.rd_put_same, and_of_and_eq (wmask_and_fullMask r), hmask, or_outside_and]

/-- The global registers whose handlers store under the mask (R137, R161, R162, R192, R210). -/
def maskedGlobals : List Reg :=
  [.glob .corblbase, .glob .corbubase, .glob .rirblbase, .glob .rirbubase, .glob .rintcnt, .glob .wakeen, .glob .intctl]

theorem storesUnderMask_global (f : RegFile) {r : Reg} (h : r ∈ maskedGlobals) : StoresUnderMask f r := by
  simp only [maskedGlobals, List.mem_cons, List.not_mem_nil, or_false] at h
  obtain rfl | rfl | rfl | rfl | rfl | rfl | rfl := h
  · exact storesUnderMask_plain f rfl
  · exact storesUnderMask_plain f rfl
  · exact storesUnderMask_plain f rfl
  · exact storesUnderMask_plain f rfl
  · exact storesUnderMask_plain f rfl
  · exact storesUnderMask_masked f rfl fun _ _ => rfl
  · exact storesUnderMask_masked f rfl fun _ _ => rfl

theorem storesUnderMask_guarded {f : RegFile} {n : Stream} {q : SReg} (hrun : f.run n = false)
    (hq : q ∈ [SReg.cbl, .lvi, .fifow, .fmt, .bdpl, .bdpu]) : StoresUnderMask f (.str q n) := by
  rintro s val rfl
  have hwr : (Reg.str q n).desc.wr = .sdguard n := by
    simp only [List.mem_cons, List.not_mem_nil, or_false] at hq
    obtain rfl | rfl | rfl | rfl | rfl | rfl := hq <;> rfl
  unfold writeHandler wSdguard
  rw [hwr]
  dsimp only
  rw [if_neg (by simp [hrun])]
  exact wPlain_rd_masked _ val s

/-- A register that neither a drain nor a read changes, and that a read shows as stored. -/
def Settled (r : Reg) : Prop := r ∉ [Reg.glob .corbrp, .glob .rirbwp, .glob .rirbsts, .glob .walclk, .glob .intsts]

theorem settled_global : ∀ r ∈ maskedGlobals, Settled r := by
  unfold Settled
  decide

/-- A settled register is shown as it stands, under the readable mask (R133). -/
theorem shown_settled {r : Reg} (h : Settled r) (s : State) : shown s r = s.regs.rd r &&& r.rmask := by
  simp only [Settled, List.mem_cons, List.not_mem_nil, or_false, not_or] at h
  obtain ⟨_, _, _, hclock, hints⟩ := h
  unfold shown
  rw [readValue_plain hclock hints]

theorem drain_rd {r : Reg} (hrp : r ≠ .glob .corbrp) (hwp : r ≠ .glob .rirbwp) (hsts : r ≠ .glob .rirbsts) (s : State) :
    (drain s).regs.rd r = s.regs.rd r := by
  rw [drain_eq]
  split
  · rfl
  · rw [irqEval_regs]
    exact (ringOnly_drainBody { s with corbKick := false }).regs r hrp hwp hsts

/-- The end of a write changes no register but those of a drain (R135, R143). -/
theorem endWrite_rd {r : Reg} (hrp : r ≠ .glob .corbrp) (hwp : r ≠ .glob .rirbwp) (hsts : r ≠ .glob .rirbsts)
    (s : State) : (endWrite s).regs.rd r = s.regs.rd r := by
  unfold endWrite inlineDrain
  split
  · rw [drain_rd hrp hwp hsts, irqEval_regs]
  · rw [irqEval_regs]

/-- A write of a whole register is one piece (R136). -/
theorem hostWrite_reg {r : Reg} {w : Width} (hw : w.bytes = r.width) (v : Word) (s : State) :
    hostWrite r.off w v s = endWrite (writePiece v s ⟨some r, 0, w.bytes - 1, 0⟩) := by
  have h0 : (0 : Fin 4).val + w.bytes = w.bytes := Nat.zero_add _
  have h := hostWrite_inside (t := .reg r) (lo := 0) (w := w) (h0.trans hw).le v s
  rwa [h0] at h

/-- A write of a whole register out of reset, where the handler stores under the mask (R135, R137). -/
theorem hostWrite_whole {r : Reg} {w : Width} (hw : w.bytes = r.width) {s : State} (hcrst : s.regs.crst = true)
    (hstore : StoresUnderMask s.regs r) (hset : Settled r) (v : Word) :
    (hostWrite r.off w v s).regs.rd r &&& r.rmask = ((v &&& r.wmask) ||| (s.regs.rd r &&& ~~~r.wmask)) &&& r.rmask := by
  simp only [Settled, List.mem_cons, List.not_mem_nil, or_false, not_or] at hset
  obtain ⟨hrp, hwp, hsts, _, _⟩ := hset
  rw [hostWrite_reg hw, endWrite_rd hrp hwp hsts, writePiece_reg (.inl hcrst), hstore _ _ (noteReserved_regs ..),
    merged_whole r hw]

/-- Settles O20: the handler stores under the mask, nothing at the end of the write touches the register, and the read
of all its bytes shows it under the readable mask. -/
theorem plainRoundTrip : Obligations.PlainRoundTrip := by
  intro i k r w v s t u hr hcrst hw _ hi hk hwrite hread
  obtain ⟨hstore, hset⟩ : StoresUnderMask s.regs r ∧ Settled r := by
    rcases hr with h | ⟨n, q, rfl, hrun, hq⟩
    · exact ⟨storesUnderMask_global _ h, settled_global r h⟩
    · exact ⟨storesUnderMask_guarded hrun hq, by simp [Settled]⟩
  have ht : t = hostWrite r.off w v s := Host.Outcome.next.inj (hwrite.symm.trans (exec_wr hi s))
  have hu : u = hostRead r.off w t := Host.Outcome.next.inj (hread.symm.trans (exec_rd hk t))
  rw [hu, hostRead_whole hw, shown_settled hset, ht]
  exact hostWrite_whole hw hcrst hstore hset v

end Sys2Proof.Machine
end

section
/-! A DRAIN that meets no suppressed response (42_corb_rirb.md R191, R204, R206 to R209, R214): the loop is followed
command by command, with what guest memory and RIRBSTS hold after the flushes so far. -/

namespace Sys2Proof.Machine

/-! ### Guest memory written twice (R76) -/

theorem Memory.poke_poke_same (m : Memory) (a : Nat) (b b' : Byte) : (m.poke a b).poke a b' = m.poke a b' := by
  unfold Memory.poke
  rw [List.map_map]
  apply List.map_congr_left
  intro c _
  by_cases h : c.1 = a <;> simp [h]

theorem Memory.poke_comm (m : Memory) {a x : Nat} (h : a ≠ x) (b c : Byte) :
    (m.poke a b).poke x c = (m.poke x c).poke a b := by
  unfold Memory.poke
  rw [List.map_map, List.map_map]
  apply List.map_congr_left
  intro d _
  by_cases ha : d.1 = a
  · simp [ha, h]
  · by_cases hx : d.1 = x <;> simp [ha, hx, h.symm]

theorem Memory.poke_writeRun_above (bs : List Byte) : ∀ (m : Memory) {a x : Nat} (b : Byte), a < x →
    (m.writeRun x bs).poke a b = (m.poke a b).writeRun x bs := by
  induction bs with
  | nil => intro m a x b _; rfl
  | cons c bs ih =>
    intro m a x b h
    rw [Memory.writeRun, Memory.writeRun, ih _ b (Nat.lt_succ_of_lt h), Memory.poke_comm m (Nat.ne_of_gt h)]

/-- Of two runs of the same length at one address the second one stays. -/
theorem Memory.writeRun_writeRun (bs : List Byte) : ∀ (m : Memory) (a : Nat) (bs' : List Byte), bs'.length = bs.length →
    (m.writeRun a bs).writeRun a bs' = m.writeRun a bs' := by
  induction bs with
  | nil =>
    intro m a bs' h
    rfl
  | cons b bs ih =>
    intro m a bs' h
    cases bs' with
    | nil => simp at h
    | cons b' bs' =>
      rw [Memory.writeRun, Memory.writeRun, Memory.writeRun, Memory.poke_writeRun_above _ _ _ (Nat.lt_succ_self a),
        Memory.poke_poke_same, ih _ _ _ (by simpa using h)]

/-- A write over a write of the same range: as if the first had not been, and it fails only where the first fails. -/
theorem Memory.write_write {m m' : Memory} {a : Nat} {bs bs' : List Byte} (h : m.write a bs = some m')
    (hlen : bs'.length = bs.length) : m'.write a bs' = some (m.writeRun a bs') ∧ m.write a bs' = some (m.writeRun a bs') := by
  obtain ⟨rfl, x, hx⟩ := Memory.write_eq_some h
  have hread : ∀ n : Memory, n.addrs = m.addrs → n.write a bs' = some (n.writeRun a bs') := by
    intro n hn
    have hs : (n.read a bs'.length).isSome = true := by
      rw [Memory.read_isSome_congr hn, hlen, hx]
      rfl
    obtain ⟨y, hy⟩ := Option.isSome_iff_exists.mp hs
    unfold Memory.write
    rw [hy]
  exact ⟨by rw [hread _ (Memory.addrs_writeRun ..), Memory.writeRun_writeRun _ _ _ _ hlen], hread m rfl⟩

/-- A part of a range that can be read reads as that part of its bytes (R75). -/
theorem Memory.read_slice {m : Memory} {a n i k : Nat} {bs : List Byte} (h : m.read a n = some bs) (hk : 0 < k)
    (hik : i + k ≤ n) : m.read (a + i) k = some (slice bs i k) := by
  obtain ⟨hlen, hbytes⟩ := Memory.read_eq_some h
  have hbound : a + n ≤ 2 ^ 64 := by
    have := (Memory.read_isSome_iff m a n).mp (by rw [h]; rfl)
    omega
  rw [Memory.read_eq, if_neg (Nat.ne_of_gt hk), if_neg (by omega), Memory.readRun_eq_some_iff]
  refine ⟨by simp [slice]; omega, ?_⟩
  intro j hj
  rw [Nat.add_assoc, hbytes (i + j) (by omega)]
  simp [slice, hj, List.getElem?_drop]

/-! ### Flush after flush (R207, R209) -/

theorem length_rirbBytes (buf : Vector Quad 256) (cap : Nat) : (rirbBytes buf cap).length = 8 * cap := by
  unfold rirbBytes
  rw [List.length_flatMap]
  simp [toLe64, Nat.mul_comm]

/-- A flush over an earlier flush leaves what it would leave alone. -/
theorem flushedWith_over (s : State) (buf buf' : Vector Quad 256) :
    ((flushedWith s buf).write s.regs.rirbBase (rirbBytes buf' s.regs.rirbCap)).getD (flushedWith s buf) =
      flushedWith s buf' := by
  have hlen : (rirbBytes buf' s.regs.rirbCap).length = (rirbBytes buf s.regs.rirbCap).length := by
    rw [length_rirbBytes, length_rirbBytes]
  change (Memory.write ((s.mem.write s.regs.rirbBase (rirbBytes buf s.regs.rirbCap)).getD s.mem) _ _).getD
      ((s.mem.write s.regs.rirbBase (rirbBytes buf s.regs.rirbCap)).getD s.mem) =
    (s.mem.write s.regs.rirbBase (rirbBytes buf' s.regs.rirbCap)).getD s.mem
  cases h : s.mem.write s.regs.rirbBase (rirbBytes buf s.regs.rirbCap) with
  | none => rfl
  | some m =>
    obtain ⟨hover, halone⟩ := Memory.write_write h hlen
    rw [Option.getD_some, hover, halone]
    rfl

/-- RIRBSTS after a flush (R207). -/
def flaggedSts (s : State) : Word :=
  if s.regs.rintctl then (s.regs.rd (.glob .rirbsts) ||| rintflBit) &&& (Reg.glob .rirbsts).fullMask
  else s.regs.rd (.glob .rirbsts)

/-- Between `s` and `u` no flush took place. -/
def Unflushed (s u : State) : Prop := u.mem = s.mem ∧ u.regs.rd (.glob .rirbsts) = s.regs.rd (.glob .rirbsts)

/-- Between `s` and `u` a flush took place, the last one of the mirror `buf`. -/
def Flushed (s u : State) (buf : Vector Quad 256) : Prop :=
  u.mem = flushedWith s buf ∧ u.regs.rd (.glob .rirbsts) = flaggedSts s

/-- Bits set twice are set. -/
theorem or_and_or_and (x b f : Word) : (((x ||| b) &&& f) ||| b) &&& f = (x ||| b) &&& f := by
  ext i hi
  simp only [BitVec.getElem_and, BitVec.getElem_or]
  cases x[i] <;> cases b[i] <;> simp

theorem rirbFlush_sts (s : State) : (rirbFlush s).regs.rd (.glob .rirbsts) = flaggedSts s := by
  rw [rirbFlush_eq]
  unfold flaggedSts
  dsimp only
  split
  · rw [RegFile.rd_put_same]
  · rfl

/-- Whatever flushes came before, after a flush guest memory and RIRBSTS are as if it were the only one. -/
theorem flushed_rirbFlush {s u : State} (hring : RingOnly s u) (h : Unflushed s u ∨ ∃ buf, Flushed s u buf) :
    Flushed s (rirbFlush u) u.rirbBuf := by
  have hmem : (rirbFlush u).mem = (u.mem.write s.regs.rirbBase (rirbBytes u.rirbBuf s.regs.rirbCap)).getD u.mem := by
    rw [rirbFlush_eq, ← hring.rirbBase, ← hring.rirbCap]
    rfl
  unfold Flushed
  rw [hmem, rirbFlush_sts, flaggedSts, hring.rintctl]
  rcases h with ⟨hm, hsts⟩ | ⟨buf, hm, hsts⟩
  · rw [hm, hsts]
    exact ⟨rfl, rfl⟩
  · rw [hm, hsts, flushedWith_over, flaggedSts]
    refine ⟨rfl, ?_⟩
    by_cases hc : s.regs.rintctl = true
    · simp only [hc, if_true, or_and_or_and]
    · simp [hc]

/-- An append flushes the mirror with its response in it, or flushes nothing and leaves a response pending (R206). -/
theorem appendResponse_flushed {s u : State} (hring : RingOnly s u) (h : Unflushed s u ∨ ∃ buf, Flushed s u buf)
    (resp : Quad) :
    (Unflushed s (appendResponse resp u) ∨ ∃ buf, Flushed s (appendResponse resp u) buf) ∧
    ((appendResponse resp u).respPending = 0 → Flushed s (appendResponse resp u) (appendResponse resp u).rirbBuf) := by
  have hsts : (appended resp u).regs.rd (.glob .rirbsts) = u.regs.rd (.glob .rirbsts) := by
    unfold appended
    rw [State.setField_eq, State.setReg_regs, RegFile.rd_put_of_ne _ (by decide)]
  have happ : Unflushed s (appended resp u) ∨ ∃ buf, Flushed s (appended resp u) buf := by
    unfold Unflushed Flushed
    rw [hsts]
    exact h
  rw [appendResponse_eq]
  split
  · have hflush := flushed_rirbFlush (hring.trans (ringOnly_appended resp u)) happ
    rw [rirbFlush_rirbBuf]
    exact ⟨.inr ⟨_, hflush⟩, fun _ => hflush⟩
  · exact ⟨happ, fun h0 => absurd h0 (Nat.succ_ne_zero _)⟩

/-! ### One command and its answer (R204, R214) -/

theorem codecLookup_eq (s : State) (cmd : Word) :
    (s.codecLookup cmd).1 = (s.oracle.codec[0]?).getD (Config.codecAnswer s.oracle.codecSeq cmd) ∧
    (s.codecLookup cmd).2.oracle =
      { s.oracle with codec := s.oracle.codec.drop 1, codecSeq := s.oracle.codecSeq + 1 } := by
  unfold State.codecLookup
  cases h : s.oracle.codec with
  | nil => simp [h]
  | cons a rest => simp

theorem commandIndex_lt (s : State) (k : Nat) : commandIndex s k < s.regs.corbCap := Nat.mod_lt _ s.regs.corbCap_pos

/-- The mirror holds the command word at its index (R204, R209). -/
theorem mirrorCorb_command (s : State) (k : Nat) : (mirrorCorb s).corbBuf[commandIndex s k]?.getD 0 = commandAt s k := by
  have hlt := commandIndex_lt s k
  rw [mirrorCorb_corbBuf, if_pos hlt, Option.getD_some]
  unfold commandAt corbWordAt
  cases h : s.mem.read s.regs.corbBase (4 * s.regs.corbCap) with
  | none => cases s.mem.read (s.regs.corbBase + 4 * commandIndex s k) 4 <;> rfl
  | some m => rw [Memory.read_slice h (by omega) (by omega)]

/-! ### The pointers (R191) -/

/-- From `rp` the pointer meets `wp` after as many steps as lie between them, and not before. -/
theorem add_mod_eq_iff {cap rp wp k : Nat} (hrp : rp < cap) (hwp : wp < cap) (hk : k ≤ (wp + cap - rp) % cap) :
    (rp + k) % cap = wp ↔ k = (wp + cap - rp) % cap := by
  by_cases hle : rp ≤ wp
  · have hn : (wp + cap - rp) % cap = wp - rp := by
      rw [show wp + cap - rp = wp - rp + cap by omega, Nat.add_mod_right, Nat.mod_eq_of_lt (by omega)]
    rw [hn] at hk ⊢
    rw [Nat.mod_eq_of_lt (by omega)]
    omega
  · have hn : (wp + cap - rp) % cap = wp + cap - rp := Nat.mod_eq_of_lt (by omega)
    rw [hn] at hk ⊢
    by_cases hlt : rp + k < cap
    · rw [Nat.mod_eq_of_lt hlt]
      omega
    · rw [Nat.mod_eq_sub_mod (by omega), Nat.mod_eq_of_lt (by omega)]
      omega

theorem outstanding_le (s : State) : outstanding s ≤ 256 :=
  (Nat.le_of_lt (Nat.mod_lt _ s.regs.corbCap_pos)).trans s.regs.corbCap_le

/-! ### The loop -/

/-- The place of the `k`-th response of a DRAIN that starts in `s` (R204). -/
def responseIndex (s : State) (k : Nat) : Nat := (s.regs.rirbWp + 1 + k) % s.regs.rirbCap

theorem responseIndex_lt (s : State) (k : Nat) : responseIndex s k < 256 :=
  Nat.lt_of_lt_of_le (Nat.mod_lt _ s.regs.rirbCap_pos) s.regs.rirbCap_le

/-- Responses less than one round of the ring apart have different places. -/
theorem responseIndex_ne {s : State} {j k : Nat} (hj : j < k) (hk : k < j + s.regs.rirbCap) :
    responseIndex s j ≠ responseIndex s k := by
  intro h
  have hmod : (s.regs.rirbWp + 1 + k) % s.regs.rirbCap = (s.regs.rirbWp + 1 + j) % s.regs.rirbCap := h.symm
  have := Nat.le_of_dvd (by omega) (Nat.dvd_of_mod_eq_zero (Nat.sub_mod_eq_zero_of_mod_eq hmod))
  omega

/-- What the loop of a DRAIN started in `s` has reached after `k` commands, none of them suppressed. -/
structure Drained (s : State) (k : Nat) (u : State) : Prop where
  ring : RingOnly s u
  corbBuf : u.corbBuf = (mirrorCorb s).corbBuf
  corbRp : u.regs.corbRp = (s.regs.corbRp + k) % s.regs.corbCap
  rirbWp : u.regs.rirbWp = (s.regs.rirbWp + k) % s.regs.rirbCap
  codec : u.oracle.codec = s.oracle.codec.drop k
  codecSeq : u.oracle.codecSeq = s.oracle.codecSeq + k
  /-- The responses of the last round stand in their places. -/
  answers : ∀ j < k, k ≤ j + s.regs.rirbCap → u.rirbBuf[responseIndex s j]? = some (responseAt s j)
  others : ∀ i, (∀ j < k, responseIndex s j ≠ i) → u.rirbBuf[i]? = s.rirbBuf[i]?
  memory : Unflushed s u ∨ ∃ buf, Flushed s u buf
  start : k = 0 → Unflushed s u ∧ u.respPending = s.respPending
  /-- Nothing is pending after a response only if a flush has just written the mirror as it is. -/
  settled : 0 < k → u.respPending = 0 → Flushed s u u.rirbBuf

theorem drained_mirrorCorb {s : State} (hok : s.regs.pointersOk) : Drained s 0 (mirrorCorb s) := by
  obtain ⟨_, hrp, hwp⟩ := hok
  refine ⟨ringOnly_mirrorCorb s, rfl, ?_, ?_, rfl, rfl, fun j hj => absurd hj (Nat.not_lt_zero j), fun _ _ => rfl,
    .inl ⟨rfl, rfl⟩, fun _ => ⟨⟨rfl, rfl⟩, rfl⟩, fun h => absurd h (Nat.lt_irrefl 0)⟩
  · exact (Nat.mod_eq_of_lt hrp).symm
  · exact (Nat.mod_eq_of_lt hwp).symm

section
variable {s u : State} {k : Nat} (h : Drained s k u)
include h

theorem Drained.nextCommand_eq : nextCommand u = commandIndex s k := by
  unfold nextCommand commandIndex
  rw [h.corbRp, h.ring.corbCap, Nat.mod_add_mod, Nat.add_right_comm]

/-- The next lookup is answered with the answer to the next command. -/
theorem Drained.nextLookup_fst : (nextLookup u).1 = answerAt s k := by
  unfold nextLookup answerAt
  rw [h.nextCommand_eq, h.corbBuf, mirrorCorb_command, (codecLookup_eq _ _).1, h.codec, h.codecSeq, List.getElem?_drop,
    Nat.add_zero]
  cases s.oracle.codec[k]? <;> rfl

theorem Drained.suppressed_eq : suppressed (nextLookup u).2 (responseOf (nextLookup u).1) = suppressedAt s k := by
  have hring : RingOnly s (nextLookup u).2 := h.ring.trans (ringOnly_codecLookup u _)
  unfold suppressed suppressedAt
  rw [h.nextLookup_fst, hring.cfg, hring.unsol]
  rfl

/-- The pointers meet exactly when every command is consumed (R191). -/
theorem Drained.corbRp_eq_corbWp_iff (hok : s.regs.pointersOk) (hk : k ≤ outstanding s) :
    u.regs.corbRp = u.regs.corbWp ↔ k = outstanding s := by
  obtain ⟨hwp, hrp, _⟩ := hok
  rw [h.corbRp, h.ring.corbWp]
  exact add_mod_eq_iff hrp hwp hk

end

/-- The state in which the response of the next command is appended: the answer taken, the read pointer moved. -/
def readyToAppend (u : State) : State :=
  (nextLookup u).2.setField (.glob .corbrp) 0xFF (BitVec.ofNat 32 (nextCommand u))

theorem ringOnly_readyToAppend (u : State) : RingOnly u (readyToAppend u) :=
  (ringOnly_codecLookup u _).trans (ringOnly_setRp _ _)

theorem readyToAppend_corbRp (u : State) : (readyToAppend u).regs.corbRp = nextCommand u :=
  corbRp_setField _ (nextCommand_lt u)

theorem readyToAppend_rd {u : State} {r : Reg} (h : r ≠ .glob .corbrp) : (readyToAppend u).regs.rd r = u.regs.rd r := by
  unfold readyToAppend nextLookup
  rw [State.setField_eq, State.setReg_regs, RegFile.rd_put_of_ne _ h, State.codecLookup_regs]

theorem readyToAppend_rirbWp (u : State) : (readyToAppend u).regs.rirbWp = u.regs.rirbWp := by
  unfold RegFile.rirbWp
  rw [readyToAppend_rd (by decide)]

theorem readyToAppend_oracle (u : State) :
    (readyToAppend u).oracle =
      { u.oracle with codec := u.oracle.codec.drop 1, codecSeq := u.oracle.codecSeq + 1 } := (codecLookup_eq u _).2

/-- The words of the mirrors, of guest memory and the count of responses are untouched until then. -/
theorem readyToAppend_fields (u : State) :
    (readyToAppend u).corbBuf = u.corbBuf ∧ (readyToAppend u).rirbBuf = u.rirbBuf ∧
    (readyToAppend u).respPending = u.respPending ∧ (readyToAppend u).mem = u.mem := by
  simp [readyToAppend, nextLookup]

/-- One command more (R204, R206). -/
theorem Drained.succ {s u : State} {k : Nat} (h : Drained s k u) :
    Drained s (k + 1) (consume (nextCommand u) (responseOf (nextLookup u).1) (nextLookup u).2) := by
  obtain ⟨hcorbBuf, hrirbBuf, _, hmem⟩ := readyToAppend_fields u
  have hring : RingOnly s (readyToAppend u) := h.ring.trans (ringOnly_readyToAppend u)
  have hcap : (readyToAppend u).regs.rirbCap = s.regs.rirbCap := hring.rirbCap
  have hresp : responseOf (nextLookup u).1 = responseAt s k := by
    rw [h.nextLookup_fst]
    rfl
  have hplace : ((readyToAppend u).regs.rirbWp + 1) % s.regs.rirbCap = responseIndex s k := by
    rw [readyToAppend_rirbWp, h.rirbWp, Nat.mod_add_mod, Nat.add_right_comm]
    rfl
  have hbuf : (appendResponse (responseAt s k) (readyToAppend u)).rirbBuf =
      u.rirbBuf.setIfInBounds (responseIndex s k) (responseAt s k) := by
    rw [appendResponse_rirbBuf, hrirbBuf, hcap, hplace]
  have hbefore : Unflushed s (readyToAppend u) ∨ ∃ buf, Flushed s (readyToAppend u) buf := by
    unfold Unflushed Flushed
    rw [hmem, readyToAppend_rd (by decide)]
    exact h.memory
  obtain ⟨hmemory, hsettled⟩ := appendResponse_flushed hring hbefore (responseAt s k)
  have hconsume : consume (nextCommand u) (responseOf (nextLookup u).1) (nextLookup u).2 =
      appendResponse (responseAt s k) (readyToAppend u) := by
    rw [hresp]
    rfl
  rw [hconsume]
  refine ⟨hring.trans (ringOnly_appendResponse _ _), ?_, ?_, ?_, ?_, ?_, ?_, ?_, hmemory,
    fun h0 => absurd h0 (Nat.succ_ne_zero k), fun _ => hsettled⟩
  · rw [appendResponse_corbBuf, hcorbBuf, h.corbBuf]
  · rw [appendResponse_corbRp, readyToAppend_corbRp, h.nextCommand_eq, commandIndex, Nat.add_right_comm, Nat.add_assoc]
  · rw [appendResponse_rirbWp, hcap, readyToAppend_rirbWp, h.rirbWp, Nat.mod_add_mod, Nat.add_assoc]
  · rw [appendResponse_oracle, readyToAppend_oracle, h.codec, List.drop_drop]
  · rw [appendResponse_oracle, readyToAppend_oracle, h.codecSeq, Nat.add_assoc]
  · intro j hj hround
    rw [hbuf, Vector.getElem?_setIfInBounds]
    rcases Nat.lt_succ_iff_lt_or_eq.mp hj with hlt | rfl
    · rw [if_neg (responseIndex_ne hlt hround).symm]
      exact h.answers j hlt (by omega)
    · rw [if_pos rfl, if_pos (responseIndex_lt s _)]
  · intro i hi
    rw [hbuf, Vector.getElem?_setIfInBounds, if_neg (hi k (Nat.lt_succ_self k))]
    exact h.others i fun j hj => hi j (Nat.lt_succ_of_lt hj)

/-- With no suppressed response the loop consumes every command (R204). -/
theorem drained_drainLoop {s : State} (hok : s.regs.pointersOk) (hsup : ∀ k < outstanding s, suppressedAt s k = false) :
    ∀ (fuel k : Nat) (u : State), Drained s k u → k ≤ outstanding s → outstanding s ≤ k + fuel →
      Drained s (outstanding s) (drainLoop fuel u) := by
  intro fuel
  induction fuel with
  | zero =>
    intro k u h hle hfuel
    obtain rfl : k = outstanding s := Nat.le_antisymm hle hfuel
    exact h
  | succ fuel ih =>
    intro k u h hle hfuel
    rw [drainLoop_succ]
    by_cases hk : k = outstanding s
    · rw [if_pos ((h.corbRp_eq_corbWp_iff hok hle).mpr hk)]
      exact hk ▸ h
    · have hlt : k < outstanding s := Nat.lt_of_le_of_ne hle hk
      rw [if_neg (mt (h.corbRp_eq_corbWp_iff hok hle).mp hk), h.suppressed_eq, hsup k hlt]
      exact ih (k + 1) _ h.succ hlt (by omega)

theorem drained_drainBody {s : State} (hok : s.regs.pointersOk)
    (hsup : ∀ k < outstanding s, suppressedAt s k = false) :
    ∃ u, Drained s (outstanding s) u ∧ drainBody s = flushIfEmpty u :=
  ⟨_, drained_drainLoop hok hsup 256 0 _ (drained_mirrorCorb hok) (Nat.zero_le _)
    ((outstanding_le s).trans (Nat.le_add_left _ _)), rfl⟩

/-! ### The flush at the end (R208) -/

/-- After the last command nothing is pending; what guest memory and RIRBSTS hold is one flush of the mirror, unless
nothing was there to answer or to flush. -/
theorem flushIfEmpty_drained {s u : State} (hok : s.regs.pointersOk) (h : Drained s (outstanding s) u) :
    (flushIfEmpty u).respPending = 0 ∧ (flushIfEmpty u).rirbBuf = u.rirbBuf ∧ (flushIfEmpty u).oracle = u.oracle ∧
    (flushIfEmpty u).regs.corbRp = u.regs.corbRp ∧ (flushIfEmpty u).regs.rirbWp = u.regs.rirbWp ∧
    (outstanding s = 0 ∧ s.respPending = 0 → Unflushed s (flushIfEmpty u)) ∧
    (¬ (outstanding s = 0 ∧ s.respPending = 0) → Flushed s (flushIfEmpty u) u.rirbBuf) := by
  have hempty : u.regs.corbRp = u.regs.corbWp := (h.corbRp_eq_corbWp_iff hok (Nat.le_refl _)).mpr rfl
  unfold flushIfEmpty
  by_cases hp : 0 < u.respPending
  · rw [if_pos ⟨hempty, hp⟩]
    refine ⟨rirbFlush_respPending u, rirbFlush_rirbBuf u, rirbFlush_oracle u, rirbFlush_corbRp u, rirbFlush_rirbWp u,
      ?_, fun _ => flushed_rirbFlush h.ring h.memory⟩
    rintro ⟨hnone, hs⟩
    have := (h.start hnone).2
    omega
  · have h0 : u.respPending = 0 := Nat.eq_zero_of_not_pos hp
    rw [if_neg (fun hflush => hp hflush.2)]
    refine ⟨h0, rfl, rfl, rfl, rfl, fun hnone => (h.start hnone.1).1, fun hsome => ?_⟩
    refine h.settled (Nat.pos_of_ne_zero fun hk => hsome ⟨hk, ?_⟩) h0
    rw [← (h.start hk).2, h0]

theorem exec_drain_running {s : State} (hkick : s.corbKick = true) (hrun : s.regs.corbRun = true)
    (hrst : s.regs.corbRst = false) : exec .drain s = .next (irqEval (drainBody { s with corbKick := false })) := by
  rw [exec_eq_runForm]
  change execDrain s = _
  unfold execDrain
  rw [if_pos hkick, drain_eq, if_neg (by simp [hrun, hrst])]

/-- Settles O40: the loop consumes every command with its response appended, and its flushes leave what one flush of
the mirror leaves. -/
theorem drainFifo : Obligations.DrainFifo := by
  intro s hkick hrun hrst hok hsup
  obtain ⟨u, hdrained, hbody⟩ := drained_drainBody (s := { s with corbKick := false }) hok hsup
  obtain ⟨hpending, hbuf, horacle, hrp, hwp, hunflushed, hflushed⟩ :=
    flushIfEmpty_drained (s := { s with corbKick := false }) hok hdrained
  refine ⟨_, exec_drain_running hkick hrun hrst, ?_⟩
  rw [hbody, irqEval_regs, irqEval_rirbBuf, irqEval_respPending, irqEval_oracle, irqEval_mem, State.reg_eq, irqEval_regs,
    hbuf, horacle]
  refine ⟨?_, hwp.trans hdrained.rirbWp, hdrained.answers, hdrained.others, hpending, hdrained.codec,
    hdrained.codecSeq, ?_, ?_⟩
  · rw [hrp, (hdrained.corbRp_eq_corbWp_iff hok (Nat.le_refl _)).mpr rfl, hdrained.ring.corbWp]
  · by_cases hnone : outstanding s = 0 ∧ s.respPending = 0
    · rw [if_pos hnone]
      exact (hunflushed hnone).1
    · rw [if_neg hnone]
      exact (hflushed hnone).1
  · by_cases hnone : outstanding s = 0 ∧ s.respPending = 0
    · rw [if_neg (fun h => h.2 hnone)]
      exact (hunflushed hnone).2
    · have hsts := (hflushed hnone).2
      by_cases hc : s.regs.rintctl = true
      · rw [if_pos ⟨hc, hnone⟩]
        exact hsts.trans (if_pos hc)
      · rw [if_neg (fun h => hc h.1)]
        exact hsts.trans (if_neg hc)

end Sys2Proof.Machine
end

section
/-! The schedule of a start (44_stream_dma.md R266, R267, R270): what the groups of a list and the steps made of them
add up to, and where each begins. -/

namespace Sys2Proof.Machine

/-! ### The groups of a list (R266) -/

/-- The groups cover the bytes gathered so far and those of the entries still to come. -/
theorem sum_bytes_groupsFrom (l : List Bdle) : ∀ first count bytes : Nat, (count = 0 → bytes = 0) →
    ((groupsFrom first count bytes l).map (·.bytes)).sum = bytes + totalLen l := by
  induction l with
  | nil =>
    intro first count bytes h
    unfold groupsFrom
    by_cases hc : count = 0
    · simp [hc, h hc, totalLen]
    · simp [hc, totalLen]
  | cons e l ih =>
    intro first count bytes h
    have ht : totalLen (e :: l) = e.len.toNat + totalLen l := by simp [totalLen]
    unfold groupsFrom
    split
    · rw [List.map_cons, List.sum_cons, ih _ _ _ (fun _ => rfl), ht]
      dsimp only
      omega
    · rw [ih _ _ _ (fun h => absurd h (Nat.succ_ne_zero count)), ht]
      omega

/-- The groups cover the entries gathered so far and those still to come. -/
theorem sum_count_groupsFrom (l : List Bdle) : ∀ first count bytes : Nat,
    ((groupsFrom first count bytes l).map (·.count)).sum = count + l.length := by
  induction l with
  | nil =>
    intro first count bytes
    unfold groupsFrom
    by_cases hc : count = 0 <;> simp [hc]
  | cons e l ih =>
    intro first count bytes
    unfold groupsFrom
    split
    · rw [List.map_cons, List.sum_cons, ih, List.length_cons]
      dsimp only
      omega
    · rw [ih, List.length_cons]
      omega

/-- Where something is gathered or to come there is a first group, and it begins where the gathering began. -/
theorem groupsFrom_head (l : List Bdle) : ∀ first count bytes : Nat, 0 < count + l.length →
    ∃ g rest, groupsFrom first count bytes l = g :: rest ∧ g.first = first := by
  induction l with
  | nil =>
    intro first count bytes h
    unfold groupsFrom
    rw [if_neg (by simpa using Nat.ne_of_gt h)]
    exact ⟨_, _, rfl, rfl⟩
  | cons e l ih =>
    intro first count bytes _
    unfold groupsFrom
    split
    · exact ⟨_, _, rfl, rfl⟩
    · exact ih _ _ _ (by omega)

/-- Every group but the first begins where the one before it ends. -/
theorem groupsFrom_consecutive (l : List Bdle) : ∀ (first count bytes k : Nat) (g g' : Group),
    (groupsFrom first count bytes l)[k]? = some g → (groupsFrom first count bytes l)[k + 1]? = some g' →
    g'.first = g.first + g.count := by
  induction l with
  | nil =>
    intro first count bytes k g g' _ hg'
    unfold groupsFrom at hg'
    split at hg' <;> simp at hg'
  | cons e l ih =>
    intro first count bytes k g g' hg hg'
    unfold groupsFrom at hg hg'
    split at hg
    · next hioc =>
      rw [if_pos hioc, List.getElem?_cons_succ] at hg'
      cases k with
      | zero =>
        obtain rfl : _ = g := by simpa using hg
        have hl : 0 < 0 + l.length := by
          cases l with
          | nil => simp [groupsFrom] at hg'
          | cons d l => simp
        obtain ⟨h, rest, hgroups, hfirst⟩ := groupsFrom_head l (first + count + 1) 0 0 hl
        obtain rfl : h = g' := by simpa [hgroups] using hg'
        rw [hfirst, Nat.add_assoc]
      | succ k =>
        rw [List.getElem?_cons_succ] at hg
        exact ih _ _ _ k g g' hg hg'
    · next hioc =>
      rw [if_neg hioc] at hg'
      exact ih _ _ _ k g g' hg hg'

/-! ### The steps of the groups (R267) -/

/-- The law of R267: byte count times loop count is the size that was split. -/
theorem splitPeriod_mul (cfg : Config) (g : Nat) : (splitPeriod cfg g).1 * (splitPeriod cfg g).2 = g := by
  unfold splitPeriod
  dsimp only
  split
  · next h => exact Nat.div_mul_cancel (Nat.dvd_of_mod_eq_zero h.2.2)
  · exact Nat.mul_one g

theorem stepOf_bytes_mul_loops (cfg : Config) (f : Fmt) (g : Group) :
    (stepOf cfg f g).bytes * (stepOf cfg f g).loops = g.bytes := splitPeriod_mul cfg g.bytes

theorem stepOf_first (cfg : Config) (f : Fmt) (g : Group) : (stepOf cfg f g).first = g.first := rfl

theorem stepOf_count (cfg : Config) (f : Fmt) (g : Group) : (stepOf cfg f g).count = g.count := rfl

/-- One step for each group, in order. -/
theorem buildSchedule_getElem? (cfg : Config) (bdl : List Bdle) (f : Fmt) (k : Nat) :
    (buildSchedule cfg bdl f)[k]? = (groups bdl)[k]?.map (stepOf cfg f) := List.getElem?_map

/-- Settles O45: the sums are those of the groups, by induction over the list of entries. -/
theorem scheduleSum : Obligations.ScheduleSum := by
  intro s n bdl fmt hlen ⟨_, _, hcbl, _⟩ sched
  have hbytes : sched.map (fun st => st.bytes * st.loops) = (groups bdl).map (·.bytes) := by
    simp only [sched, buildSchedule, List.map_map, Function.comp_def, stepOf_bytes_mul_loops]
  have hcount : sched.map (·.count) = (groups bdl).map (·.count) := by
    simp only [sched, buildSchedule, List.map_map, Function.comp_def, stepOf_count]
  have hpos : 0 < bdl.length := by rw [hlen]; exact Nat.succ_pos _
  refine ⟨by rw [hbytes], ?_, hcbl, ?_, ?_, ?_⟩
  · exact (sum_bytes_groupsFrom bdl 0 0 0 (fun _ => rfl)).trans (Nat.zero_add _)
  · rw [hcount, ← hlen]
    exact (sum_count_groupsFrom bdl 0 0 0).trans (Nat.zero_add _)
  · obtain ⟨g, rest, hg, hfirst⟩ := groupsFrom_head bdl 0 0 0 (by omega)
    refine ⟨stepOf s.cfg fmt g, ?_, (stepOf_first s.cfg fmt g).trans hfirst⟩
    rw [buildSchedule_getElem?, show groups bdl = g :: rest from hg]
    rfl
  · intro k st st' hst hst'
    rw [buildSchedule_getElem?, Option.map_eq_some_iff] at hst hst'
    obtain ⟨g, hg, rfl⟩ := hst
    obtain ⟨g', hg', rfl⟩ := hst'
    rw [stepOf_first, stepOf_first, stepOf_count]
    exact groupsFrom_consecutive bdl 0 0 0 k g g' hg hg'

end Sys2Proof.Machine
end

section
/-! SAVE and RESTORE (45_host_ops.md R308 to R310): which words of the state a RESTORE takes from the record, which from
guest memory, and which it leaves. -/

namespace Sys2Proof.Machine

/-! ### The agents' answers (R305, R309) -/

/-- From `s` to `t` the sinks may have been asked; the codec's and the captured bytes' answers are the same. -/
def SinksOnly (s t : State) : Prop := t.oracle = { s.oracle with sink := t.oracle.sink, sinkSeq := t.oracle.sinkSeq }

theorem sinksOnly_of_eq {s t : State} (h : t.oracle = s.oracle) : SinksOnly s t := by
  unfold SinksOnly
  rw [h]

theorem SinksOnly.trans {s t u : State} (h : SinksOnly s t) (k : SinksOnly t u) : SinksOnly s u := by
  unfold SinksOnly at *
  rw [k, h]

/-- Disabling a stream asks no agent (R283). -/
theorem sdDisable_oracle (n : Stream) (s : State) : (sdDisable n s).oracle = s.oracle := by
  unfold sdDisable
  dsimp only
  split
  · split <;> rfl
  · rfl

theorem noteBackend_oracle (n : Stream) (ok : Bool) (s : State) : (noteBackend n ok s).oracle = s.oracle := by
  unfold noteBackend
  split <;> rfl

theorem loadBdl_oracle (n : Stream) (bytes : List Byte) (s : State) : (loadBdl n bytes s).oracle = s.oracle := by
  simp [loadBdl]

theorem sinksOnly_resumeStream (r : Snapshot) (n : Stream) (f : Fmt) (s : State) :
    SinksOnly s (resumeStream r n f s) := by
  have h : (resumeStream r n f s).oracle = (askSink n f s).2.oracle := noteBackend_oracle n _ _
  unfold SinksOnly
  rw [h, (askSink_eq n f s).2]

theorem sinksOnly_rearm (r : Snapshot) (n : Stream) (s : State) : SinksOnly s (rearm r n s) := by
  rw [rearm_eq]
  have hb : (bindTag n s).oracle = s.oracle := rfl
  refine (sinksOnly_of_eq hb).trans ?_
  generalize bindTag n s = u
  cases fetchBdl u n with
  | none => exact sinksOnly_of_eq rfl
  | some bytes =>
    refine (sinksOnly_of_eq (loadBdl_oracle n bytes u)).trans ?_
    dsimp only
    generalize loadBdl n bytes u = w
    cases startFormat w n (w.dmaOf n).bdl with
    | none => exact sinksOnly_of_eq rfl
    | some f =>
      dsimp only
      split
      · exact sinksOnly_resumeStream r n f w
      · exact sinksOnly_of_eq rfl

theorem sinksOnly_restoreStream (r : Snapshot) (s : State) (n : Stream) : SinksOnly s (restoreStream r s n) := by
  have hp : SinksOnly s (restorePosition r n s) := sinksOnly_of_eq rfl
  unfold restoreStream
  dsimp only
  split
  · exact hp.trans (sinksOnly_rearm r n _)
  · exact hp

theorem sinksOnly_foldl {f : State → Stream → State} (hf : ∀ s n, SinksOnly s (f s n)) (l : List Stream) :
    ∀ s, SinksOnly s (l.foldl f s) := by
  induction l with
  | nil => intro s; exact sinksOnly_of_eq rfl
  | cons n l ih => intro s; exact (hf s n).trans (ih _)

/-- RESTORE asks the sinks and no other agent (R305, R309). -/
theorem sinksOnly_restored (r : Snapshot) (s : State) : SinksOnly s (restored r s) := by
  have hd : SinksOnly s (disableAll s) := sinksOnly_foldl (fun s n => sinksOnly_of_eq (sdDisable_oracle n s)) _ s
  have hc : ∀ t, SinksOnly t (restoreCore r t) := fun _ => sinksOnly_of_eq rfl
  exact (hd.trans (hc _)).trans (sinksOnly_foldl (sinksOnly_restoreStream r) _ _)

/-! ### The response mirror -/

/-- The mirror re-read after a RESTORE: guest memory's words below the ring's capacity, else 0 (R309). -/
theorem reloadRirb_getElem (s : State) (j : Fin 256) :
    (reloadRirb s)[j] =
      match s.mem.read s.regs.rirbBase (8 * s.regs.rirbCap) with
      | some bytes => if j.val < s.regs.rirbCap then le64 (slice bytes (8 * j.val) 8) else 0
      | none => 0 := by
  have h := foldl_setIfInBounds (rirbWordAt (s.mem.read s.regs.rirbBase (8 * s.regs.rirbCap)) s.regs.rirbCap)
    (Vector.replicate 256 0) 256 (Nat.le_refl _) j.val
  rw [if_pos j.isLt] at h
  exact Option.some.inj ((Vector.getElem?_eq_getElem j.isLt).symm.trans h)

/-- The response mirror of RESTORE is re-read with the saved registers from guest memory as it is (R309). -/
theorem restored_rirbBuf (r : Snapshot) (s : State) :
    (restored r s).rirbBuf = reloadRirb { s with regs := r.regs } := by
  obtain ⟨_, hbuf, _⟩ := foldl_restore_fields r allStreams (restoreCore r (disableAll s))
  refine hbuf.trans ?_
  rw [restoreCore_eq]
  unfold reloadRirb
  simp only [(quiet_disableAll s).mem]

/-! ### The round trip -/

/-- A state is the record of its fields. -/
theorem State.eta (s : State) :
    s = ⟨s.cfg, s.regs, s.dma, s.corbBuf, s.rirbBuf, s.respPending, s.corbKick, s.irqLevel, s.wcEpoch, s.now, s.counts,
      s.mem, s.saved, s.oracle, s.out, s.pending⟩ := rfl

/-- What RESTORE of a record leaves of state `u`: all but the controller's words of R309, the sinks' calls and answers,
and one edge of the wire (R309, R310). -/
theorem restore_frame (r : Snapshot) (u : State) :
    restore r u = { u with
      regs := r.regs, dma := (restore r u).dma, corbBuf := (restore r u).corbBuf, rirbBuf := (restore r u).rirbBuf,
      respPending := 0, corbKick := r.regs.crst && r.regs.corbRun, wcEpoch := r.wcEpoch, irqLevel := r.irqLevel,
      counts := (restore r u).counts,
      oracle := { u.oracle with sink := (restore r u).oracle.sink, sinkSeq := (restore r u).oracle.sinkSeq },
      out := { u.out with
               sinkCalls := (restore r u).out.sinkCalls,
               wire := if u.irqLevel = r.irqLevel then u.out.wire else r.irqLevel :: u.out.wire } } := by
  have hq := quiet_restored r u
  have ho : SinksOnly u (restored r u) := sinksOnly_restored r u
  have hr := restored_regs r u
  obtain ⟨_, hp, hk, hw⟩ := restored_fields r u
  rw [restore_eq]
  generalize restored r u = t at *
  have hout : (t.driveWire r.irqLevel).out =
      { u.out with
        sinkCalls := t.out.sinkCalls,
        wire := if u.irqLevel = r.irqLevel then u.out.wire else r.irqLevel :: u.out.wire } := by
    rw [State.driveWire_out]
    dsimp only
    rw [hq.irqLevel, hq.wire, hq.readData, hq.sinkMoved, hq.rendered]
  unfold SinksOnly at ho
  rw [State.eta (t.driveWire r.irqLevel)]
  simp only [State.driveWire_cfg, State.driveWire_regs, State.driveWire_respPending, State.driveWire_corbKick,
    State.driveWire_irqLevel, State.driveWire_wcEpoch, State.driveWire_now, State.driveWire_mem, State.driveWire_saved,
    State.driveWire_oracle, State.driveWire_pending, hout, hq.cfg, hq.mem, hq.saved, hq.now, hq.pending, hr, hp, hk, hw]
  rw [← ho]

/-- The record of a stream that SAVE makes (R308). -/
theorem snapshotOf_perStream (s : State) (n : Stream) : (snapshotOf s).perStream.get n = savedStream (s.dmaOf n) := by
  simp [snapshotOf, State.dmaOf, Vector.get_eq_getElem]

theorem exec_restore_saved {u : State} {r : Snapshot} (h : u.saved = some r) : exec .restore u = .next (restore r u) := by
  rw [exec_eq_runForm]
  change execRestore u = _
  unfold execRestore
  rw [h]

theorem exec_restore_unsaved {u : State} (h : u.saved = none) : exec .restore u = .refused .restoreWithoutSave := by
  rw [exec_eq_runForm]
  change execRestore u = _
  unfold execRestore
  rw [h]

/-- Settles O52: SAVE records the snapshot; RESTORE of it takes the registers, the epoch and the level from the record,
and every stream's position from it, whichever streams it re-arms. -/
theorem restoreRoundTrip : Obligations.RestoreRoundTrip := by
  refine ⟨fun u h => exec_restore_unsaved h, fun s => rfl, ?_⟩
  intro s u h
  refine ⟨restore (snapshotOf s) u, exec_restore_saved h, ?_, ?_, ?_, ?_, restore_frame (snapshotOf s) u⟩
  · intro r
    rw [restore_eq, State.reg_eq, State.driveWire_regs, restored_regs]
    rfl
  · intro n
    obtain ⟨hentry, hoff, hreset, hnext⟩ := restored_placed (snapshotOf s) u n
    rw [restore_eq, State.dmaOf_driveWire]
    rw [snapshotOf_perStream] at hentry hoff hreset hnext
    exact ⟨hentry, hoff, hreset, hnext⟩
  · rw [restore_eq, State.driveWire_corbBuf]
    exact (restored_fields (snapshotOf s) u).1
  · intro j
    have hbuf : (restore (snapshotOf s) u).rirbBuf = reloadRirb { u with regs := s.regs } := by
      rw [restore_eq, State.driveWire_rirbBuf]
      exact restored_rirbBuf (snapshotOf s) u
    simp only [hbuf]
    exact reloadRirb_getElem { u with regs := s.regs } j

end Sys2Proof.Machine
end

section
/-! The register map (10_state.md R23 to R26, 30_encoding.md R103, 40_mmio_dispatch.md R134): the tables in numbers, and
the offsets that decode to nothing, the window cut where the map changes its shape. -/

namespace Sys2Proof.Machine

/-! ### The layout (R26) -/

/-- Register `r` ends where `r'` begins, or before. -/
def EndsBefore (r r' : Reg) : Prop := r.off + r.width ≤ r'.off

theorem EndsBefore.trans {a b c : Reg} (h : EndsBefore a b) (k : EndsBefore b c) : EndsBefore a c := by
  unfold EndsBefore at *
  omega

/-- Each entry of the map ends before the next one begins, hence before every later one (R26 a). -/
theorem allRegs_pairwise : allRegs.Pairwise EndsBefore := by
  have hnext : allRegs.IsChain EndsBefore := by
    unfold EndsBefore
    decide +kernel
  have : IsTrans Reg EndsBefore := ⟨fun _ _ _ => EndsBefore.trans⟩
  exact hnext.pairwise

theorem width_bounds (r : Reg) : 1 ≤ r.width ∧ r.width ≤ 4 := by
  have h : ∀ r ∈ allRegs, 1 ≤ Reg.width r ∧ r.width ≤ 4 := by decide +kernel
  exact h r r.mem_allRegs

/-- Settles O7: the entries are compared pair of neighbours by pair of neighbours, the gaps offset by offset. -/
theorem registerLayout : Obligations.RegisterLayout := by
  refine ⟨allRegs_pairwise, width_bounds, ?_, ?_⟩
  · have h : ∀ r ∈ allRegs, Reg.off r / 4 = (r.off + r.width - 1) / 4 := by decide +kernel
    exact fun r => h r r.mem_allRegs
  · have h : ∀ o : Fin 0x80, (0x12 ≤ o.val ∧ o.val ≤ 0x1F) ∨ (0x28 ≤ o.val ∧ o.val ≤ 0x2F) ∨
        (0x34 ≤ o.val ∧ o.val ≤ 0x3F) ∨ o.val = 0x4F ∨ (0x5F ≤ o.val ∧ o.val ≤ 0x7F) → decodeByte o.val = none := by
      decide +kernel
    intro o ho
    exact h ⟨o, by omega⟩ ho

/-! ### The offsets that decode to nothing (R134) -/

/-- Below the second offsets of R25 an offset decodes as the tables of R23 and R24 say. -/
theorem dupAt_below {o : Nat} (h : o < 0x2030) : dupAt o = none := by
  have hclock : Dup.walclk.off = 0x2030 := rfl
  unfold dupAt byteWithin
  rw [hclock, if_neg (by omega)]
  dsimp only
  rw [if_neg (by omega)]

/-- Above the last of them there is none. -/
theorem dupAt_above {o : Nat} (h : 0x2184 ≤ o) : dupAt o = none := by
  have hclock : Dup.walclk.off = 0x2030 := rfl
  unfold dupAt byteWithin
  rw [hclock, if_neg (by omega)]
  dsimp only
  rw [if_neg (by rw [nStreams_eq]; omega)]

/-- The tables of R23 and R24 end with the block of the last stream. -/
theorem regAt_above {o : Nat} (h : 0x180 ≤ o) : regAt o = none := by
  unfold regAt
  rw [if_neg (by omega), if_neg (by rw [nStreams_eq]; omega)]

/-- Between the stream blocks and the second offsets, and above these, no offset decodes. -/
theorem decodeByte_gap {o : Nat} (h : (0x180 ≤ o ∧ o < 0x2030) ∨ 0x2184 ≤ o) : decodeByte o = none := by
  have hdup : dupAt o = none := by
    rcases h with ⟨_, hlt⟩ | hge
    · exact dupAt_below hlt
    · exact dupAt_above hge
  unfold decodeByte
  rw [hdup]
  exact regAt_above (by omega)

/-- The unmapped offsets, as R134 lists them. -/
def Listed (o : Nat) : Prop :=
  (0x12 ≤ o ∧ o ≤ 0x1F) ∨ (0x28 ≤ o ∧ o ≤ 0x2F) ∨ (0x34 ≤ o ∧ o ≤ 0x3F) ∨ o = 0x4F ∨ (0x5F ≤ o ∧ o ≤ 0x7F) ∨
  (∃ n : Stream, 0x94 + 0x20 * n.val ≤ o ∧ o ≤ 0x97 + 0x20 * n.val) ∨ (0x180 ≤ o ∧ o ≤ 0x202F) ∨
  (0x2034 ≤ o ∧ o ≤ 0x2083) ∨
  (0x2084 ≤ o ∧ ∀ n : Stream, ¬ (0x2084 + 0x20 * n.val ≤ o ∧ o ≤ 0x2087 + 0x20 * n.val))

/-- In the registers' part of the window, 12 blocks of 32 bytes, every offset is looked up. -/
theorem decodeByte_low (o : Fin 0x180) : decodeByte o.val = none ↔ Listed o.val := by
  unfold Listed
  revert o
  decide +kernel

/-- So is every one among the second offsets. -/
theorem decodeByte_high (d : Fin 0x154) : decodeByte (0x2030 + d.val) = none ↔ Listed (0x2030 + d.val) := by
  unfold Listed
  revert d
  decide +kernel

theorem listed_gap {o : Nat} (h : (0x180 ≤ o ∧ o < 0x2030) ∨ 0x2184 ≤ o) : Listed o := by
  unfold Listed
  by_cases hlow : o < 0x2030
  · omega
  · have hnone : ∀ n : Stream, ¬ (0x2084 + 0x20 * n.val ≤ o ∧ o ≤ 0x2087 + 0x20 * n.val) := by
      intro n
      omega
    exact .inr (.inr (.inr (.inr (.inr (.inr (.inr (.inr ⟨by omega, hnone⟩)))))))

/-- An offset decodes to nothing exactly where R134 says so. -/
theorem decodeByte_eq_none_iff (o : Nat) : decodeByte o = none ↔ Listed o := by
  by_cases hlow : o < 0x180
  · exact decodeByte_low ⟨o, hlow⟩
  · by_cases hhigh : 0x2030 ≤ o ∧ o < 0x2184
    · have h := decodeByte_high ⟨o - 0x2030, by omega⟩
      rwa [Nat.add_sub_cancel' hhigh.1] at h
    · have hgap : (0x180 ≤ o ∧ o < 0x2030) ∨ 0x2184 ≤ o := by omega
      exact iff_of_true (decodeByte_gap hgap) (listed_gap hgap)

/-! ### The map in numbers -/

theorem decodeByte_dup_walclk : ∀ i < 4, decodeByte (0x2030 + i) = some (.glob .walclk, i) := by decide +kernel

theorem decodeByte_dup_lpib : ∀ n : Stream, ∀ i < 4, decodeByte (0x2084 + 0x20 * n.val + i) = some (.str .lpib n, i) := by
  decide +kernel

/-- A table of offset, width, readable and writable mask holds if each of its rows does. -/
theorem table_of_rows {α : Type} {P : α → Nat → Nat → Word → Word → Prop} {table : List (α × Nat × Nat × Word × Word)}
    (h : ∀ row ∈ table, P row.1 row.2.1 row.2.2.1 row.2.2.2.1 row.2.2.2.2) :
    ∀ r off width rmask wmask, (r, off, width, rmask, wmask) ∈ table → P r off width rmask wmask :=
  fun _ _ _ _ _ hrow => h _ hrow

/-- Settles O8: the numbers of the tables row by row, the offsets by the tables and the gaps between them. -/
theorem offsetDecoding : Obligations.OffsetDecoding := by
  refine ⟨table_of_rows (by decide +kernel), table_of_rows (by decide +kernel), ?_, decodeByte_dup_walclk,
    decodeByte_dup_lpib, fun o _ => decodeByte_eq_none_iff o⟩
  intro r i hi
  exact decodeByte_reg hi (Nat.lt_of_lt_of_le hi (width_bounds r).2)

end Sys2Proof.Machine
end

section
/-! What a register may hold (10_state.md R27 to R57): the bits that no operation changes, taken together in one mask,
and the shapes of a store that keep them. -/

namespace Sys2Proof

/-- The bits of a register that hold their reset value for ever: all of a constant's, else the unreadable and the fixed
ones. -/
def Reg.frozen (r : Reg) : Word := if r.constant then BitVec.allOnes 32 else ~~~r.rmask ||| r.fixedBits

/-- The word has the reset value in the bits that never change. -/
def Reg.Allows (r : Reg) (x : Word) : Prop := x &&& r.frozen = r.resetVal &&& r.frozen

theorem Reg.allows_reset (r : Reg) : r.Allows r.resetVal := rfl

/-- A store truncates to the width (R8); the bits cut off are frozen at 0. -/
theorem Reg.Allows.truncated {r : Reg} {x : Word} (h : r.Allows x) : r.Allows (x &&& r.fullMask) := by
  have hreset : r.resetVal &&& r.fullMask = r.resetVal := by
    have h : ∀ r ∈ allRegs, Reg.resetVal r &&& r.fullMask = r.resetVal := by decide +kernel
    exact h r r.mem_allRegs
  unfold Reg.Allows at *
  calc x &&& r.fullMask &&& r.frozen = x &&& r.frozen &&& r.fullMask := by ac_rfl
    _ = r.resetVal &&& r.fullMask &&& r.frozen := by rw [h]; ac_rfl
    _ = r.resetVal &&& r.frozen := by rw [hreset]

/-- Only what reaches a frozen bit matters. -/
theorem Reg.Allows.of_same {r : Reg} {x y : Word} (h : r.Allows x) (hsame : y &&& r.frozen = x &&& r.frozen) :
    r.Allows y := hsame.trans h

/-- Bits that are not frozen may be set. -/
theorem Reg.Allows.or {r : Reg} {x b : Word} (h : r.Allows x) (hb : b &&& r.frozen = 0) : r.Allows (x ||| b) := by
  refine h.of_same ?_
  rw [BitVec.and_or_distrib_right, hb]
  exact BitVec.or_zero

/-- A field without a frozen bit may be replaced (R137). -/
theorem Reg.Allows.field {r : Reg} {x m : Word} (h : r.Allows x) (hm : m &&& r.frozen = 0) (v : Word) :
    r.Allows ((x &&& ~~~m) ||| (v &&& m)) := by
  have hkept := Machine.field_other x v m (BitVec.allOnes 32) r.frozen hm
  rw [BitVec.and_allOnes, BitVec.and_allOnes] at hkept
  exact h.of_same hkept

/-- Flags may be cleared where no frozen bit is 1 (R140). -/
theorem Reg.Allows.cleared {r : Reg} {x m : Word} (h : r.Allows x) (hm : m &&& r.frozen &&& r.resetVal = 0) (v : Word) :
    r.Allows (x &&& ~~~(v &&& m)) := by
  unfold Reg.Allows at *
  ext i hi
  have hx := congrArg (fun y : Word => y[i]) h
  have hz := congrArg (fun y : Word => y[i]) hm
  simp only [BitVec.getElem_and, BitVec.getElem_not] at hx hz ⊢
  revert hx hz
  cases x[i] <;> cases v[i] <;> cases m[i] <;> cases r.frozen[i] <;> cases r.resetVal[i] <;> simp

/-- A register without a frozen 1 takes any word under a mask without a frozen bit. -/
theorem Reg.allows_masked {r : Reg} {m : Word} (hm : m &&& r.frozen = 0) (hreset : r.resetVal &&& r.frozen = 0)
    (v : Word) : r.Allows (v &&& m) := by
  unfold Reg.Allows
  rw [BitVec.and_assoc, hm, hreset]
  exact BitVec.and_zero

/-! ### The register file -/

namespace Machine

/-- The field tables, by the bits that never change. -/
theorem legal_iff (f : RegFile) :
    f.Legal ↔ (∀ r : Reg, r.Allows (f.rd r)) ∧ f.rd (.glob .corbsize) &&& 3 ≠ 3 ∧ f.rd (.glob .rirbsize) &&& 3 ≠ 3 := by
  have hunreadable (r : Reg) : r.resetVal &&& ~~~r.rmask = 0 := by
    have h : ∀ r ∈ allRegs, Reg.resetVal r &&& ~~~r.rmask = 0 := by decide +kernel
    exact h r r.mem_allRegs
  have hall (x : Word) : x &&& BitVec.allOnes 32 = x := BitVec.and_allOnes
  constructor
  · intro h
    refine ⟨fun r => ?_, h.corbSize, h.rirbSize⟩
    unfold Reg.Allows Reg.frozen
    split
    · next hc => rw [h.constant r hc]
    · rw [BitVec.and_or_distrib_left, BitVec.and_or_distrib_left, h.readable r, h.fixedBits r, hunreadable]
  · rintro ⟨hallows, hcorb, hrirb⟩
    have hbits (r : Reg) {m : Word} (hm : r.frozen &&& m = m) : f.rd r &&& m = r.resetVal &&& m := by
      rw [← hm, ← BitVec.and_assoc, ← BitVec.and_assoc, hallows r]
    refine ⟨fun r => ?_, fun r hc => ?_, fun r => ?_, hcorb, hrirb⟩
    · rw [← hunreadable r]
      have h : ∀ r ∈ allRegs, Reg.frozen r &&& ~~~r.rmask = ~~~r.rmask := by decide +kernel
      exact hbits r (h r r.mem_allRegs)
    · have h := hallows r
      unfold Reg.Allows Reg.frozen at h
      rwa [if_pos hc, hall, hall] at h
    · have h : ∀ r ∈ allRegs, Reg.frozen r &&& r.fixedBits = r.fixedBits := by decide +kernel
      exact hbits r (h r r.mem_allRegs)

/-- The registers that hold a ring pointer, each with the register of its ring's size. -/
def ringPointers : List (Reg × Reg) :=
  [(.glob .corbwp, .glob .corbsize), (.glob .corbrp, .glob .corbsize), (.glob .rirbwp, .glob .rirbsize)]

/-- The registers that the ring pointers and the capacities are read from. -/
def ringRegs : List Reg := [.glob .corbwp, .glob .corbrp, .glob .rirbwp, .glob .corbsize, .glob .rirbsize]

theorem str_notMem_ringRegs (k : SReg) (n : Stream) : Reg.str k n ∉ ringRegs := by simp [ringRegs]

/-- The pointer in a register. -/
def RegFile.pointer (f : RegFile) (r : Reg) : Nat := (f.rd r &&& 0xFF).toNat

/-- The capacity that a size register stands for. -/
def RegFile.capOf (f : RegFile) (size : Reg) : Nat := capacity ((f.rd size).extractLsb' 0 2)

theorem pointersOk_iff (f : RegFile) : f.pointersOk ↔ ∀ p ∈ ringPointers, f.pointer p.1 < f.capOf p.2 := by
  simp [ringPointers, RegFile.pointersOk, RegFile.pointer, RegFile.capOf, RegFile.corbWp, RegFile.corbRp,
    RegFile.rirbWp, RegFile.corbCap, RegFile.rirbCap]

theorem capOf_put_of_ne (f : RegFile) {r size : Reg} (h : size ≠ r) (v : Word) : (f.put r v).capOf size = f.capOf size := by
  unfold RegFile.capOf
  rw [f.rd_put_of_ne h]

theorem pointer_put_of_ne (f : RegFile) {r r' : Reg} (h : r' ≠ r) (v : Word) : (f.put r v).pointer r' = f.pointer r' := by
  unfold RegFile.pointer
  rw [f.rd_put_of_ne h]

/-- A stored pointer is the low byte of the word given. -/
theorem pointer_put_same (f : RegFile) {p : Reg × Reg} (hp : p ∈ ringPointers) (v : Word) :
    (f.put p.1 v).pointer p.1 = (v &&& 0xFF).toNat := by
  have hmask : ∀ p ∈ ringPointers, p.1.fullMask &&& 0xFF = (0xFF : Word) := by decide
  unfold RegFile.pointer
  rw [f.rd_put_same, BitVec.and_assoc, hmask p hp]

/-- Legal registers, with the pointers of the given list below their capacities. -/
structure RegFile.FitsOn (f : RegFile) (pointers : List (Reg × Reg)) : Prop where
  allows : ∀ r : Reg, r.Allows (f.rd r)
  corbSize : f.rd (.glob .corbsize) &&& 3 ≠ 3
  rirbSize : f.rd (.glob .rirbsize) &&& 3 ≠ 3
  below : ∀ p ∈ pointers, f.pointer p.1 < f.capOf p.2

/-- Legal registers, with every ring pointer below its capacity. -/
def RegFile.Fits (f : RegFile) : Prop := f.FitsOn ringPointers

theorem fits_iff (f : RegFile) : f.Fits ↔ f.Legal ∧ f.pointersOk := by
  rw [legal_iff, pointersOk_iff]
  exact ⟨fun h => ⟨⟨h.allows, h.corbSize, h.rirbSize⟩, h.below⟩,
    fun ⟨⟨hallows, hcorb, hrirb⟩, hbelow⟩ => ⟨hallows, hcorb, hrirb, hbelow⟩⟩

theorem fits_resetRegs : resetRegs.Fits := by
  refine ⟨fun r => ?_, by decide +kernel, by decide +kernel, by decide +kernel⟩
  rw [resetRegs_rd]
  exact r.allows_reset

/-- Registers outside the rings may change to what they allow. -/
theorem RegFile.Fits.of_rd {f g : RegFile} (h : f.Fits)
    (hg : ∀ r : Reg, g.rd r = f.rd r ∨ (r ∉ ringRegs ∧ r.Allows (g.rd r))) : g.Fits := by
  have hring : ∀ r ∈ ringRegs, g.rd r = f.rd r := fun r hr => (hg r).resolve_right fun ⟨hout, _⟩ => hout hr
  have hmem : ∀ p ∈ ringPointers, p.1 ∈ ringRegs ∧ p.2 ∈ ringRegs := by decide
  refine ⟨fun r => ?_, ?_, ?_, fun p hp => ?_⟩
  · rcases hg r with hsame | ⟨_, hallows⟩
    · rw [hsame]
      exact h.allows r
    · exact hallows
  · rw [hring _ (by decide)]
    exact h.corbSize
  · rw [hring _ (by decide)]
    exact h.rirbSize
  · have hlt := h.below p hp
    unfold RegFile.pointer RegFile.capOf at *
    rwa [hring _ (hmem p hp).1, hring _ (hmem p hp).2]

theorem allows_put {f : RegFile} (h : ∀ r : Reg, r.Allows (f.rd r)) {r : Reg} {v : Word} (hv : r.Allows v) (r' : Reg) :
    r'.Allows ((f.put r v).rd r') := by
  rw [RegFile.rd_put]
  split
  · next heq => exact heq ▸ hv.truncated
  · exact h r'

theorem RegFile.Fits.put {f : RegFile} (h : f.Fits) {r : Reg} (hr : r ∉ ringRegs) {v : Word} (hv : r.Allows v) :
    (f.put r v).Fits := by
  refine h.of_rd fun r' => ?_
  by_cases heq : r' = r
  · exact .inr ⟨heq ▸ hr, allows_put h.allows hv r'⟩
  · exact .inl (f.rd_put_of_ne heq v)

/-! ### The ring pointers -/

theorem RegFile.FitsOn.mono {f : RegFile} {l l' : List (Reg × Reg)} (h : f.FitsOn l) (hsub : l' ⊆ l) : f.FitsOn l' :=
  ⟨h.allows, h.corbSize, h.rirbSize, fun p hp => h.below p (hsub hp)⟩

/-- A pointer below its capacity may be stored. -/
theorem RegFile.FitsOn.putPointer {f : RegFile} {l : List (Reg × Reg)} (h : f.FitsOn l) (hl : l ⊆ ringPointers)
    {p : Reg × Reg} (hp : p ∈ ringPointers) {v : Word} (hv : p.1.Allows v) (hlt : (v &&& 0xFF).toNat < f.capOf p.2) :
    (f.put p.1 v).FitsOn (p :: l) := by
  have hsize : ∀ p ∈ ringPointers, ∀ q ∈ ringPointers, q.2 ≠ p.1 := by decide
  have hinj : ∀ p ∈ ringPointers, ∀ q ∈ ringPointers, q.1 = p.1 → q = p := by decide
  have hsizes : ∀ p ∈ ringPointers, Reg.glob .corbsize ≠ p.1 ∧ Reg.glob .rirbsize ≠ p.1 := by decide
  obtain ⟨hcorb, hrirb⟩ := hsizes p hp
  refine ⟨allows_put h.allows hv, ?_, ?_, fun q hq => ?_⟩
  · rw [f.rd_put_of_ne hcorb]
    exact h.corbSize
  · rw [f.rd_put_of_ne hrirb]
    exact h.rirbSize
  · have hq' : q ∈ ringPointers := List.cons_subset.mpr ⟨hp, hl⟩ hq
    rw [capOf_put_of_ne f (hsize p hp q hq')]
    by_cases heq : q.1 = p.1
    · rw [hinj p hp q hq' heq, pointer_put_same f hp]
      exact hlt
    · have hmem : q ∈ l := (List.mem_cons.mp hq).resolve_left fun e => heq (congrArg Prod.fst e)
      rw [pointer_put_of_ne f heq]
      exact h.below q hmem

/-- A legal size code may be stored; the pointers of its ring are then to be reduced (R199, R201). -/
theorem RegFile.Fits.putSize {f : RegFile} (h : f.Fits) {size : Reg} (hsize : size ∈ [Reg.glob .corbsize, .glob .rirbsize])
    {val : Word} (hval : val &&& 3 ≠ 3) :
    (f.put size (0x70 ||| (val &&& 3))).FitsOn (ringPointers.filter fun p => decide (p.2 ≠ size)) := by
  have hword : (0x70 ||| (val &&& 3) : Word) = (0x70 &&& ~~~3) ||| (val &&& 3) := rfl
  have hfull : ∀ size ∈ [Reg.glob .corbsize, .glob .rirbsize], 3 &&& size.fullMask = 3 := by decide
  have hallows : size.Allows (0x70 ||| (val &&& 3)) := by
    have hbase : ∀ size ∈ [Reg.glob .corbsize, .glob .rirbsize], size.Allows 0x70 ∧ 3 &&& size.frozen = 0 := by
      unfold Reg.Allows
      decide
    rw [hword]
    exact (hbase size hsize).1.field (hbase size hsize).2 val
  have hcode (r : Reg) (hr : f.rd r &&& 3 ≠ 3) : (f.put size (0x70 ||| (val &&& 3))).rd r &&& 3 ≠ 3 := by
    rw [RegFile.rd_put]
    split
    · rw [hword, field_same _ _ _ _ (hfull size hsize)]
      exact hval
    · exact hr
  refine ⟨allows_put h.allows hallows, hcode _ h.corbSize, hcode _ h.rirbSize, fun p hp => ?_⟩
  have hptr : ∀ p ∈ ringPointers, ∀ size ∈ [Reg.glob .corbsize, .glob .rirbsize], p.1 ≠ size := by decide
  obtain ⟨hmem, hne⟩ := List.mem_filter.mp hp
  rw [pointer_put_of_ne f (hptr p hmem size hsize), capOf_put_of_ne f (of_decide_eq_true hne)]
  exact h.below p hmem

/-- A ring pointer register takes any number in its low byte. -/
theorem allows_ofNat {p : Reg × Reg} (hp : p ∈ ringPointers) {k : Nat} (hk : k < 256) : p.1.Allows (BitVec.ofNat 32 k) := by
  have hbyte : BitVec.ofNat 32 k &&& 0xFF = BitVec.ofNat 32 k := by
    apply BitVec.eq_of_toNat_eq
    rw [toNat_ofNat_and_ff hk, BitVec.toNat_ofNat, Nat.mod_eq_of_lt (by omega)]
  have hmask : ∀ p ∈ ringPointers, 0xFF &&& p.1.frozen = (0 : Word) ∧ p.1.resetVal &&& p.1.frozen = 0 := by decide
  rw [← hbyte]
  exact Reg.allows_masked (hmask p hp).1 (hmask p hp).2 _

theorem capOf_le (f : RegFile) (size : Reg) : f.capOf size ≤ 256 := capacity_le _

theorem capOf_pos (f : RegFile) (size : Reg) : 0 < f.capOf size := capacity_pos _

/-- A number below the capacity may be stored as pointer. -/
theorem RegFile.FitsOn.putNumber {f : RegFile} {l : List (Reg × Reg)} (h : f.FitsOn l) (hl : l ⊆ ringPointers)
    {p : Reg × Reg} (hp : p ∈ ringPointers) {k : Nat} (hk : k < f.capOf p.2) :
    (f.put p.1 (BitVec.ofNat 32 k)).FitsOn (p :: l) := by
  have hlt := Nat.lt_of_lt_of_le hk (capOf_le f p.2)
  refine h.putPointer hl hp (allows_ofNat hp hlt) ?_
  rw [toNat_ofNat_and_ff hlt]
  exact hk

end Machine
end Sys2Proof
end

section
/-! What every operation keeps of the registers and of the response count (10_state.md R61 d and i): handler by handler,
then the rings' and the streams' own stores, then the operations. -/

namespace Sys2Proof.Machine

/-- The registers fit their tables and the responses not yet flushed fit their ring (R61 d and i). -/
structure State.Sound (s : State) : Prop where
  regs : s.regs.Fits
  pending : s.respPending ≤ 256

/-- Registers that fit, and nothing pending more than before. -/
theorem State.Sound.mono {s t : State} (h : s.Sound) (hregs : t.regs.Fits) (hpending : t.respPending ≤ s.respPending) :
    t.Sound := ⟨hregs, hpending.trans h.pending⟩

theorem State.Sound.setReg {s : State} (h : s.Sound) {r : Reg} (hr : r ∉ ringRegs) {v : Word} (hv : r.Allows v) :
    (s.setReg r v).Sound := ⟨h.regs.put hr hv, h.pending⟩

theorem RegFile.Fits.putPointer {f : RegFile} (h : f.Fits) {p : Reg × Reg} (hp : p ∈ ringPointers) {v : Word}
    (hv : p.1.Allows v) (hlt : (v &&& 0xFF).toNat < f.capOf p.2) : (f.put p.1 v).Fits :=
  (FitsOn.putPointer h (List.Subset.refl _) hp hv hlt).mono (List.subset_cons_self _ _)

theorem RegFile.Fits.putNumber {f : RegFile} (h : f.Fits) {p : Reg × Reg} (hp : p ∈ ringPointers) {k : Nat}
    (hk : k < f.capOf p.2) : (f.put p.1 (BitVec.ofNat 32 k)).Fits :=
  (FitsOn.putNumber h (List.Subset.refl _) hp hk).mono (List.subset_cons_self _ _)

/-- Counters are no part of it. -/
theorem State.Sound.congr {s t : State} (h : s.Sound) (hregs : t.regs = s.regs)
    (hpending : t.respPending = s.respPending) : t.Sound := ⟨hregs ▸ h.regs, hpending ▸ h.pending⟩

theorem sound_resetCore (s : State) : (resetCore s).Sound := ⟨fits_resetRegs, Nat.zero_le _⟩

/-! ### The handlers of global registers -/

theorem sound_kickIfRunning {s : State} (h : s.Sound) : (kickIfRunning s).Sound := by
  rw [kickIfRunning_eq]
  exact ⟨h.regs, h.pending⟩

theorem sound_wPlain {r : Reg} (hr : r ∉ ringRegs) (hmask : r.wmask &&& r.frozen = 0) (val : Word) {s : State}
    (h : s.Sound) : (wPlain r val s).Sound := by
  have hfield := (h.regs.allows r).field hmask val
  rw [BitVec.or_comm] at hfield
  exact h.setReg hr hfield

theorem sound_leaveReset {s : State} (h : s.Sound) : (leaveReset s).Sound := by
  have hstatests : (Reg.glob .statests).Allows
      (s.regs.rd (.glob .statests) ||| (s.cfg.codecMask &&& 0x7FFF).setWidth 32) := by
    refine (h.regs.allows _).or ?_
    generalize s.cfg.codecMask = c
    have hwiden : (c &&& 0x7FFF).setWidth 32 = c.setWidth 32 &&& (0x7FFF : Word) := BitVec.setWidth_and
    rw [hwiden, BitVec.and_assoc]
    exact BitVec.and_zero
  have hset := (h.setReg (by decide) hstatests).regs.put (r := .glob .walclk) (v := 0) (by decide) rfl
  exact ⟨hset, h.pending⟩

theorem sound_ctrlReset (s : State) : (ctrlReset s).Sound := sound_resetCore _

theorem sound_wGctl (val : Word) {s : State} (h : s.Sound) : (wGctl val s).Sound := by
  have hset : (s.setReg (.glob .gctl) (val &&& 0x00000103)).Sound :=
    h.setReg (by decide) (Reg.allows_masked rfl rfl val)
  unfold wGctl
  dsimp only
  split
  · split
    · exact hset
    · exact sound_leaveReset hset
  · split
    · exact sound_ctrlReset s
    · exact h

theorem sound_wCorbwp (val : Word) {s : State} (h : s.Sound) : (wCorbwp val s).Sound := by
  unfold wCorbwp
  dsimp only
  refine sound_kickIfRunning ?_
  have hnoted : (if s.regs.corbCap ≤ (val &&& 0xFF).toNat then s.raise .guestProtocolViolation else s).Sound := by
    split
    · exact h.congr rfl rfl
    · exact h
  generalize (if s.regs.corbCap ≤ (val &&& 0xFF).toNat then s.raise .guestProtocolViolation else s) = u at *
  exact ⟨hnoted.regs.putNumber (p := (.glob .corbwp, .glob .corbsize)) (by decide) (Nat.mod_lt _ (capOf_pos _ _)),
    hnoted.pending⟩

theorem sound_wCorbrp (val : Word) {s : State} (h : s.Sound) : (wCorbrp val s).Sound := by
  have hstore {v : Word} (hv : (Reg.glob .corbrp).Allows v) (hlt : (v &&& 0xFF).toNat < s.regs.corbCap) :
      (s.regs.put (.glob .corbrp) v).Fits :=
    h.regs.putPointer (p := (.glob .corbrp, .glob .corbsize)) (by decide) hv hlt
  unfold wCorbrp
  split
  · split
    · exact h.congr rfl rfl
    · exact ⟨hstore rfl s.regs.corbCap_pos, h.pending⟩
  · split
    · refine sound_kickIfRunning ⟨hstore (Reg.allows_masked rfl rfl _) ?_, h.pending⟩
      rw [and_and_self]
      exact h.regs.below (.glob .corbrp, .glob .corbsize) (by decide)
    · exact h

/-- The command read pointer reduced to its capacity, RST as it was (R199). -/
theorem RegFile.FitsOn.reduceCorbrp {f : RegFile} {l : List (Reg × Reg)} (h : f.FitsOn l) (hl : l ⊆ ringPointers) :
    (f.put (.glob .corbrp) ((f.rd (.glob .corbrp) &&& 0x8000) ||| BitVec.ofNat 32 (f.corbRp % f.corbCap))).FitsOn
      ((.glob .corbrp, .glob .corbsize) :: l) := by
  have hlt : f.corbRp % f.corbCap < f.corbCap := Nat.mod_lt _ f.corbCap_pos
  have hbyte : f.corbRp % f.corbCap < 256 := Nat.lt_of_lt_of_le hlt f.corbCap_le
  have hrst : (Reg.glob .corbrp).Allows (f.rd (.glob .corbrp) &&& 0x8000) := Reg.allows_masked rfl rfl _
  have hlow : ((f.rd (.glob .corbrp) &&& 0x8000) ||| BitVec.ofNat 32 (f.corbRp % f.corbCap)) &&& 0xFF =
      BitVec.ofNat 32 (f.corbRp % f.corbCap) &&& 0xFF := by
    have h0 : f.rd (.glob .corbrp) &&& 0x8000 &&& 0xFF = 0 := by
      rw [BitVec.and_assoc]
      exact BitVec.and_zero
    rw [BitVec.and_or_distrib_right, h0]
    exact BitVec.zero_or
  refine h.putPointer hl (p := (.glob .corbrp, .glob .corbsize)) (by decide)
    (hrst.or (allows_ofNat (p := (.glob .corbrp, .glob .corbsize)) (by decide) hbyte)) ?_
  rw [hlow, toNat_ofNat_and_ff hbyte]
  exact hlt

theorem sound_wCorbsize (val : Word) {s : State} (h : s.Sound) : (wCorbsize val s).Sound := by
  unfold wCorbsize
  split
  · exact h.congr rfl rfl
  · split
    · exact h.congr rfl rfl
    · next hval =>
      have hsize := h.regs.putSize (size := .glob .corbsize) (by decide) hval
      have hwp := hsize.putNumber (p := (.glob .corbwp, .glob .corbsize)) (by decide) (by decide)
        (Nat.mod_lt (s.regs.put (.glob .corbsize) (0x70 ||| (val &&& 3))).corbWp (capOf_pos _ _))
      exact ⟨(hwp.reduceCorbrp (by decide)).mono (by decide), h.pending⟩

theorem sound_wRirbwp (val : Word) {s : State} (h : s.Sound) : (wRirbwp val s).Sound := by
  unfold wRirbwp
  split
  · split
    · exact h.congr rfl rfl
    · exact ⟨h.regs.putNumber (p := (.glob .rirbwp, .glob .rirbsize)) (k := 0) (by decide) (capOf_pos _ _), Nat.zero_le _⟩
  · exact h

theorem sound_wRirbsize (val : Word) {s : State} (h : s.Sound) : (wRirbsize val s).Sound := by
  unfold wRirbsize
  split
  · exact h.congr rfl rfl
  · split
    · exact h.congr rfl rfl
    · next hval =>
      have hsize := h.regs.putSize (size := .glob .rirbsize) (by decide) hval
      have hwp := hsize.putNumber (p := (.glob .rirbwp, .glob .rirbsize)) (by decide) (by decide)
        (Nat.mod_lt (s.regs.put (.glob .rirbsize) (0x70 ||| (val &&& 3))).rirbWp (capOf_pos _ _))
      exact ⟨hwp.mono (by decide), h.pending⟩

/-! ### The handlers of stream registers -/

/-- What a write of SDCTL does, by the bits SRST and RUN written and RUN as it stands (R233). -/
theorem wSdctl_cases (n : Stream) (val : Word) (s : State) :
    wSdctl n val s = holdStreamReset n s ∨
    ((val &&& 0xFF001F).getLsbD 0 = false ∧
      (((val &&& 0xFF001F).getLsbD 1 = true ∧ s.regs.run n = false ∧
          wSdctl n val s = sdStart n (storeSdctl n (val &&& 0xFF001F) s)) ∨
        ((val &&& 0xFF001F).getLsbD 1 = false ∧ s.regs.run n = true ∧
          wSdctl n val s = sdDisable n (storeSdctl n (val &&& 0xFF001F) s)) ∨
        ((val &&& 0xFF001F).getLsbD 1 = s.regs.run n ∧ wSdctl n val s = storeSdctl n (val &&& 0xFF001F) s))) := by
  unfold wSdctl
  dsimp only
  cases (val &&& 0xFF001F).getLsbD 0
  · cases (val &&& 0xFF001F).getLsbD 1 <;> cases s.regs.run n <;> simp
  · simp

theorem startLoaded_regs (n : Stream) (s : State) : (startLoaded n s).regs = s.regs := by
  unfold startLoaded
  split
  · exact refuseStart_regs n s
  · exact armStream_regs n _ s

/-- SD.START zeroes LPIB, and sets DESE if the list cannot be fetched (R262, R264). -/
theorem sdStart_regs (n : Stream) (s : State) :
    (sdStart n s).regs = s.regs.put (.str .lpib n) 0 ∨
    (sdStart n s).regs = (s.regs.put (.str .lpib n) 0).put (.str .sts n)
      ((s.regs.put (.str .lpib n) 0).rd (.str .sts n) ||| deseBit) := by
  have hposition : (startPosition s n).regs = s.regs.put (.str .lpib n) 0 := rfl
  rw [← hposition]
  unfold sdStart startFetch
  split
  · exact .inr rfl
  · exact .inl ((startLoaded_regs n _).trans (loadBdl_regs n _ _))

theorem holdStreamReset_regs (n : Stream) (s : State) :
    (holdStreamReset n s).regs = s.regs.put (.str .ctl n) 0x040001 ∨
    (holdStreamReset n s).regs = (sdReset n (sdDisable n s)).regs.put (.str .ctl n) 0x040001 := by
  unfold holdStreamReset
  split
  · exact .inl rfl
  · exact .inr rfl

theorem storeSdctl_regs (n : Stream) (new : Word) (s : State) :
    (storeSdctl n new s).regs = s.regs.put (.str .ctl n) new := rfl

theorem RegFile.Fits.putStr {f : RegFile} (h : f.Fits) {k : SReg} {n : Stream} {v : Word} (hv : (Reg.str k n).Allows v) :
    (f.put (.str k n) v).Fits := h.put (str_notMem_ringRegs k n) hv

theorem frozen_ctl : ∀ n : Stream, (Reg.str .ctl n).frozen = 0xFF00FFE0 ∧ (Reg.str .ctl n).resetVal = 0x040000 := by
  decide

theorem frozen_sts : ∀ n : Stream, (Reg.str .sts n).frozen = 0xFFFFFFEB ∧ (Reg.str .sts n).resetVal = 0x20 := by
  decide

/-- The causes of a stream's status may be set. -/
theorem RegFile.Fits.orSts {f : RegFile} (h : f.Fits) (n : Stream) {b : Word} (hb : b &&& 0xFFFFFFEB = 0) :
    (f.put (.str .sts n) (f.rd (.str .sts n) ||| b)).Fits := by
  refine h.putStr ((h.allows _).or ?_)
  rwa [(frozen_sts n).1]

theorem allows_heldCtl (n : Stream) : (Reg.str .ctl n).Allows 0x040001 := by
  unfold Reg.Allows
  rw [(frozen_ctl n).1, (frozen_ctl n).2]
  rfl

theorem allows_storedCtl (n : Stream) (val : Word) : (Reg.str .ctl n).Allows (val &&& 0xFF001F) := by
  refine Reg.allows_masked ?_ ?_ val
  · rw [(frozen_ctl n).1]
    rfl
  · rw [(frozen_ctl n).1, (frozen_ctl n).2]
    rfl

theorem fits_sdStart (n : Stream) {s : State} (h : s.regs.Fits) : (sdStart n s).regs.Fits := by
  have hlpib : (s.regs.put (.str .lpib n) 0).Fits := h.putStr rfl
  rcases sdStart_regs n s with heq | heq
  · exact heq ▸ hlpib
  · exact heq ▸ hlpib.orSts n rfl

theorem fits_sdReset (n : Stream) {s : State} (h : s.regs.Fits) : (sdReset n s).regs.Fits := by
  refine h.of_rd fun r => ?_
  rw [sdReset_rd]
  split
  · next hr =>
    refine .inr ⟨?_, r.allows_reset⟩
    obtain ⟨k, _, rfl⟩ := List.mem_map.mp ((Reg.ofStream_iff n r).mp hr)
    exact str_notMem_ringRegs k n
  · exact .inl rfl

theorem fits_wSdctl (n : Stream) (val : Word) {s : State} (h : s.regs.Fits) : (wSdctl n val s).regs.Fits := by
  have hstore : (storeSdctl n (val &&& 0xFF001F) s).regs.Fits := by
    rw [storeSdctl_regs]
    exact h.putStr (allows_storedCtl n val)
  rcases wSdctl_cases n val s with heq | ⟨_, ⟨_, _, heq⟩ | ⟨_, _, heq⟩ | ⟨_, heq⟩⟩
  · rw [heq]
    have hreset : (sdReset n (sdDisable n s)).regs.Fits := fits_sdReset n (by rwa [sdDisable_regs])
    rcases holdStreamReset_regs n s with heq | heq
    · exact heq ▸ h.putStr (allows_heldCtl n)
    · exact heq ▸ hreset.putStr (allows_heldCtl n)
  · exact heq ▸ fits_sdStart n hstore
  · rw [heq, sdDisable_regs]
    exact hstore
  · exact heq ▸ hstore

theorem sound_wSdsts (n : Stream) (val : Word) {s : State} (h : s.Sound) : (wSdsts n val s).Sound := by
  have hkept : 0x1C &&& (Reg.str .sts n).frozen &&& (Reg.str .sts n).resetVal = 0 := by
    rw [(frozen_sts n).1, (frozen_sts n).2]
    rfl
  rw [wSdsts_eq]
  exact ⟨h.regs.putStr ((h.regs.allows _).cleared hkept val), h.pending⟩

/-! ### Writes -/

/-- The masks of the registers whose handlers take the register as an argument (R137, R140, R236). -/
theorem masks_of_handler : ∀ r ∈ allRegs,
    ((r.desc.wr = .plain ∨ ∃ n, r.desc.wr = .sdguard n) → r ∉ ringRegs ∧ r.wmask &&& r.frozen = 0) ∧
    (r.desc.wr = .w1c → r ∉ ringRegs ∧ r.wmask &&& r.frozen &&& r.resetVal = 0) := by
  decide +kernel

theorem sound_writeHandler (r : Reg) (val : Word) {s : State} (h : s.Sound) : (writeHandler r val s).Sound := by
  obtain ⟨hplain, hw1c⟩ := masks_of_handler r r.mem_allRegs
  unfold writeHandler
  split
  · next hwr =>
    obtain ⟨hring, hmask⟩ := hplain (.inl hwr)
    exact sound_wPlain hring hmask val h
  · exact h
  · next hwr =>
    obtain ⟨hring, hmask⟩ := hw1c hwr
    exact h.setReg hring ((h.regs.allows r).cleared hmask val)
  · exact sound_wGctl val h
  · exact h.setReg (by decide) (Reg.allows_masked rfl rfl val)
  · exact h.setReg (by decide) (Reg.allows_masked rfl rfl val)
  · exact h.setReg (by decide) ((h.regs.allows _).cleared rfl val)
  · exact sound_wCorbwp val h
  · exact sound_wCorbrp val h
  · exact sound_kickIfRunning (h.setReg (by decide) (Reg.allows_masked rfl rfl val))
  · exact sound_wCorbsize val h
  · exact sound_wRirbwp val h
  · exact h.setReg (by decide) (Reg.allows_masked rfl rfl val)
  · exact h.setReg (by decide) ((h.regs.allows _).cleared rfl val)
  · exact sound_wRirbsize val h
  · next n _ => exact ⟨fits_wSdctl n val h.regs, (onlyStream_wSdctl n val s).respPending ▸ h.pending⟩
  · exact sound_wSdsts _ val h
  · next n hwr =>
    obtain ⟨hring, hmask⟩ := hplain (.inr ⟨n, hwr⟩)
    unfold wSdguard
    split
    · exact h.congr rfl rfl
    · exact sound_wPlain hring hmask val h

theorem sound_writePiece (v : Word) (p : Piece) {s : State} (h : s.Sound) : (writePiece v s p).Sound := by
  unfold writePiece
  split
  · exact h
  · next r _ =>
    split
    · exact h.congr rfl rfl
    · refine sound_writeHandler r _ ?_
      rw [noteReserved_eq]
      exact h.congr rfl rfl

/-- What each piece of a write keeps, the pieces of it keep. -/
theorem writePieces_keeps {P : State → Prop} (hpiece : ∀ v s p, P s → P (writePiece v s p)) (v : Word) (ps : List Piece) :
    ∀ s, P s → P (writePieces v ps s) := by
  unfold writePieces
  induction ps with
  | nil => exact fun s h => h
  | cons p ps ih => exact fun s h => ih _ (hpiece v s p h)

/-! ### The ring engine (42_corb_rirb.md) -/

theorem sound_rirbFlush {s : State} (h : s.regs.Fits) : (rirbFlush s).Sound := by
  rw [rirbFlush_eq]
  refine ⟨?_, Nat.zero_le _⟩
  dsimp only
  split
  · exact h.put (by decide) ((h.allows _).or rfl)
  · exact h

/-- A pointer moved inside its low byte (R39, R44). -/
theorem RegFile.Fits.putField {f : RegFile} (h : f.Fits) {p : Reg × Reg} (hp : p ∈ ringPointers) {k : Nat}
    (hk : k < f.capOf p.2) :
    (f.put p.1 ((f.rd p.1 &&& ~~~0xFF) ||| (BitVec.ofNat 32 k &&& 0xFF))).Fits := by
  have hmask : ∀ p ∈ ringPointers, 0xFF &&& p.1.frozen = (0 : Word) := by decide
  refine h.putPointer hp ((h.allows p.1).field (hmask p hp) _) ?_
  have hfield := field_same (f.rd p.1) (BitVec.ofNat 32 k) 0xFF (BitVec.allOnes 32) rfl
  rw [BitVec.and_allOnes] at hfield
  rw [hfield, toNat_ofNat_and_ff (Nat.lt_of_lt_of_le hk (capOf_le f p.2))]
  exact hk

theorem sound_appendResponse (resp : Quad) {s : State} (h : s.Sound) : (appendResponse resp s).Sound := by
  have hfield := h.regs.putField (p := (.glob .rirbwp, .glob .rirbsize)) (by decide)
    (Nat.mod_lt (s.regs.rirbWp + 1) (capOf_pos _ _))
  rw [appendResponse_eq]
  split
  · exact sound_rirbFlush hfield
  · next hbelow => exact ⟨hfield, (Nat.le_of_not_le hbelow).trans s.regs.threshold_le⟩

theorem sound_consume {nxt : Nat} (resp : Quad) {s : State} (h : s.Sound) (hlt : nxt < s.regs.corbCap) :
    (consume nxt resp s).Sound :=
  sound_appendResponse resp
    ⟨h.regs.putField (p := (.glob .corbrp, .glob .corbsize)) (by decide) hlt, h.pending⟩

theorem sound_drainLoop (fuel : Nat) : ∀ {s : State}, s.Sound → (drainLoop fuel s).Sound := by
  induction fuel with
  | zero => exact fun h => h
  | succ fuel ih =>
    intro s h
    have hlookup : (nextLookup s).2.Sound := h.congr (State.codecLookup_regs s _) (State.codecLookup_respPending s _)
    have hlt : nextCommand s < (nextLookup s).2.regs.corbCap := by
      rw [nextLookup, State.codecLookup_regs]
      exact Nat.mod_lt _ s.regs.corbCap_pos
    rw [drainLoop_succ]
    split
    · exact h
    · split
      · exact hlookup
      · exact ih (sound_consume _ hlookup hlt)

theorem sound_drain {s : State} (h : s.Sound) : (drain s).Sound := by
  have hkick : State.Sound { s with corbKick := false } := h.congr rfl rfl
  have hloop := sound_drainLoop 256 (hkick.congr (t := mirrorCorb { s with corbKick := false }) rfl rfl)
  have hbody : (drainBody { s with corbKick := false }).Sound := by
    unfold drainBody flushIfEmpty
    split
    · exact sound_rirbFlush hloop.regs
    · exact hloop
  rw [drain_eq]
  split
  · exact hkick
  · exact hbody.congr (irqEval_regs _) (irqEval_respPending _)

theorem sound_hostWrite (off : Nat) (w : Width) (v : Word) {s : State} (h : s.Sound) : (hostWrite off w v s).Sound := by
  have hpieces := writePieces_keeps (P := State.Sound) (fun v s p h => sound_writePiece v p h) v (pieces off w) s h
  have hnoted : (noteUnmapped (pieces off w) (writePieces v (pieces off w) s)).Sound := by
    rw [noteUnmapped_eq]
    exact hpieces.congr rfl rfl
  have heval := hnoted.congr (irqEval_regs _) (irqEval_respPending _)
  unfold hostWrite endWrite inlineDrain
  split
  · exact sound_drain heval
  · exact heval

/-! ### The other operations -/

theorem sound_hostRead (off : Nat) (w : Width) {s : State} (h : s.Sound) : (hostRead off w s).Sound := by
  rw [hostRead_regs]
  refine ⟨h.regs.of_rd fun r => ?_, h.pending⟩
  by_cases hr : r = .glob .walclk
  · subst hr
    exact .inr ⟨by decide, BitVec.and_zero⟩
  · exact .inl (hostRead_rd hr)

theorem commitTransfer_regs (n : Stream) (b e o : Nat) (mem : Memory) (buf : List Byte) (s : State) :
    (commitTransfer n b e o mem buf s).regs = s.regs := by
  unfold commitTransfer
  dsimp only
  split <;> rfl

theorem advanceSchedule_regs (n : Stream) (st : Step) (ioc : Bool) (s : State) :
    (advanceSchedule n st ioc s).regs = s.regs ∨
    (advanceSchedule n st ioc s).regs = s.regs.put (.str .sts n) (s.regs.rd (.str .sts n) ||| bcisBit) := by
  unfold advanceSchedule finishStep
  dsimp only
  split
  · split
    · exact .inr rfl
    · exact .inl rfl
  · exact .inl rfl

/-- LPIB after one execution of a step of stream `n` (R277). -/
def nextLpib (s : State) (n : Stream) (st : Step) : Word :=
  BitVec.ofNat 32 (((s.reg (.str .lpib n)).toNat + st.bytes) % s.regs.cbl n)

/-- A transfer moves LPIB, and an interrupt boundary sets BCIS (R277, R278). -/
theorem tickDone_regs (n : Stream) (st : Step) (ioc : Bool) (e o : Nat) (mem : Memory) (buf : List Byte) (s : State) :
    let f := s.regs.put (.str .lpib n) (nextLpib s n st)
    (tickDone n st ioc e o mem buf s).regs = f ∨
    (tickDone n st ioc e o mem buf s).regs = f.put (.str .sts n) (f.rd (.str .sts n) ||| bcisBit) := by
  intro f
  have hlpib : (advanceLpib n st.bytes (commitTransfer n st.bytes e o mem buf s)).regs = f := by
    unfold advanceLpib
    rw [State.setReg_regs, State.reg_eq, commitTransfer_regs]
    rfl
  have hrearm (u : State) : (irqEval (rearmTimer n u)).regs = u.regs := irqEval_regs _
  unfold tickDone
  rw [hrearm, ← hlpib]
  exact advanceSchedule_regs n st ioc _

theorem tickSkipped_regs (n : Stream) (st : Step) (s : State) : (tickSkipped n st s).regs = s.regs := irqEval_regs _

theorem tickAborted_regs (n : Stream) (st : Step) (mem : Memory) (s : State) :
    (tickAborted n st mem s).regs = s.regs.put (.str .sts n) (s.regs.rd (.str .sts n) ||| deseBit) := irqEval_regs _

theorem frozen_lpib : ∀ n : Stream, (Reg.str .lpib n).frozen = 0 := by decide

/-- LPIB takes every word. -/
theorem allows_lpib (n : Stream) (x : Word) : (Reg.str .lpib n).Allows x := by
  unfold Reg.Allows
  rw [frozen_lpib]
  exact BitVec.and_zero.trans BitVec.and_zero.symm

theorem sound_tick {n : Stream} {s t : State} (hs : s.Sound) (h : tick n s = .next t) : t.Sound := by
  refine hs.mono ?_ (tick_only h).1.respPending.le
  obtain ⟨_, st, last, _, _, _, ⟨_, rfl⟩ | ⟨_, e, o, mem, buf, _, rfl⟩ | ⟨_, mem, _, rfl⟩⟩ := tick_next h
  · exact tickSkipped_regs n st s ▸ hs.regs
  · have hlpib := hs.regs.putStr (allows_lpib n (nextLpib s n st))
    rcases tickDone_regs n st last.ioc e o mem buf s with heq | heq
    · exact heq ▸ hlpib
    · exact heq ▸ hlpib.orSts n rfl
  · exact tickAborted_regs n st mem s ▸ hs.regs.orSts n rfl

theorem sound_poreset (s : State) : (poreset s).Sound := by
  obtain ⟨_, _, hpending, _⟩ := poreset_fields s
  exact ⟨poreset_regs s ▸ fits_resetRegs, by rw [hpending]; exact Nat.zero_le _⟩

theorem sound_poweroff {s : State} (h : s.Sound) : (poweroff s).Sound := by
  obtain ⟨_, _, hpending, _⟩ := disableAll_fields s
  exact h.congr (disableAll_regs s) hpending

/-- RESTORE takes the registers of the record (R309). -/
theorem sound_restore {r : Snapshot} (hr : r.regs.Fits) (s : State) : (restore r s).Sound := by
  obtain ⟨_, hpending, _⟩ := restored_fields r s
  rw [restore_eq]
  refine ⟨?_, ?_⟩
  · rw [State.driveWire_regs, restored_regs]
    exact hr
  · rw [State.driveWire_respPending, hpending]
    exact Nat.zero_le _

/-! ### Every operation, and the saved record -/

/-- Only SAVE writes the saved record (R308). -/
theorem exec_saved {i : Instr} {s t : State} (h : exec i s = .next t) : t = save s ∨ t.saved = s.saved := by
  by_cases hi : i = .save
  · subst hi
    exact .inl (Host.Outcome.next.inj h).symm
  · obtain ⟨_, _, _, hsaved, _⟩ := operationsLeaveTheOutside i s t h
    exact .inr (hsaved hi)

/-- What holds of the saved record and of the record that SAVE would make holds of the record afterwards. -/
theorem saved_keeps {P : Snapshot → Prop} {i : Instr} {s t : State} (h : exec i s = .next t) (hnow : P (snapshotOf s))
    (hsaved : ∀ r, s.saved = some r → P r) : ∀ r, t.saved = some r → P r := by
  rcases exec_saved h with rfl | heq
  · intro r hr
    obtain rfl : snapshotOf s = r := Option.some.inj hr
    exact hnow
  · rwa [heq]

theorem sound_exec {i : Instr} {s t : State} (hs : s.Sound) (hsaved : ∀ r, s.saved = some r → r.regs.Fits)
    (h : exec i s = .next t) : t.Sound := by
  obtain ⟨off, w, ht⟩ | ⟨off, w, v, ht⟩ | ⟨_, ht⟩ | ⟨n, htick⟩ | ⟨n, k, ht⟩ | ⟨d, _, ht⟩ | ht |
    ⟨r, hr, ht⟩ | ht | ht := exec_next h
  · exact ht ▸ sound_hostRead off w hs
  · exact ht ▸ sound_hostWrite off w v hs
  · exact ht ▸ sound_drain hs
  · exact sound_tick hs htick
  · have honly := sinkStep_only n k s
    exact ht ▸ hs.congr honly.regs honly.respPending
  · exact ht ▸ hs.congr rfl rfl
  · exact ht ▸ hs.congr rfl rfl
  · exact ht ▸ sound_restore (hsaved r hr) s
  · exact ht ▸ sound_poweroff hs
  · exact ht ▸ sound_poreset s

/-- The two invariants of the statement, as one about the state and one about the saved record. -/
theorem ringsOk_and_registersOk_iff (s : State) :
    RingsOk s ∧ RegistersOk s ↔ s.Sound ∧ ∀ r, s.saved = some r → r.regs.Fits := by
  constructor
  · rintro ⟨⟨hpointers, hpending, hsavedPointers⟩, hlegal, hsavedLegal⟩
    exact ⟨⟨(fits_iff _).mpr ⟨hlegal, hpointers⟩, hpending⟩,
      fun r hr => (fits_iff _).mpr ⟨hsavedLegal r hr, hsavedPointers r hr⟩⟩
  · rintro ⟨⟨hregs, hpending⟩, hsaved⟩
    obtain ⟨hlegal, hpointers⟩ := (fits_iff _).mp hregs
    have hsaved' := fun r hr => (fits_iff _).mp (hsaved r hr)
    exact ⟨⟨hpointers, hpending, fun r hr => (hsaved' r hr).2⟩, hlegal, fun r hr => (hsaved' r hr).1⟩

/-- Settles O57: every store keeps the bits that never change and every ring pointer below its capacity, a response
count at its threshold is flushed, and the saved record takes and gives registers that fit. -/
theorem registersInvariant : Obligations.RegistersInvariant := by
  intro s t hrings hregisters h
  obtain ⟨hs, hsaved⟩ := (ringsOk_and_registersOk_iff s).mp ⟨hrings, hregisters⟩
  obtain ⟨x, rest, i, _, _, hexec⟩ := step_next h
  have hs' : State.Sound { s with pending := rest } := hs.congr rfl rfl
  exact (ringsOk_and_registersOk_iff t).mpr
    ⟨sound_exec hs' hsaved hexec, saved_keeps (P := fun r => r.regs.Fits) hexec hs.regs hsaved⟩

end Sys2Proof.Machine
end

section
/-! What a schedule and a transfer can rely on (44_stream_dma.md R266, R267, R274, R287): every step lies inside its
list, every entry in a step, and the list supplies a step's bytes within the iterations that R287 allows. -/

namespace Sys2Proof.Machine

/-! ### The steps of a schedule -/

theorem length_decodeBdl (k : Nat) : ∀ bytes : List Byte, (decodeBdl bytes k).length = k := by
  induction k with
  | zero => exact fun _ => rfl
  | succ k ih => exact fun bytes => congrArg (· + 1) (ih _)

/-- A group has an entry, and ends inside the list (R266). -/
theorem groupsFrom_inside (l : List Bdle) : ∀ (first count bytes : Nat), ∀ g ∈ groupsFrom first count bytes l,
    1 ≤ g.count ∧ g.first + g.count ≤ first + count + l.length := by
  induction l with
  | nil =>
    intro first count bytes g hg
    unfold groupsFrom at hg
    split at hg
    · cases hg
    · obtain rfl := List.mem_singleton.mp hg
      exact ⟨by dsimp only; omega, Nat.le_refl _⟩
  | cons e l ih =>
    intro first count bytes g hg
    unfold groupsFrom at hg
    rw [List.length_cons]
    split at hg
    · rcases List.mem_cons.mp hg with rfl | hg
      · dsimp only
        omega
      · have h := ih _ _ _ g hg
        omega
    · have h := ih _ _ _ g hg
      omega

/-- Every entry, gathered or to come, is in a group (R266). -/
theorem groupsFrom_covers (l : List Bdle) : ∀ (first count bytes e : Nat), first ≤ e → e < first + count + l.length →
    ∃ g ∈ groupsFrom first count bytes l, g.first ≤ e ∧ e < g.first + g.count := by
  induction l with
  | nil =>
    intro first count bytes e hle hlt
    rw [List.length_nil] at hlt
    unfold groupsFrom
    rw [if_neg (by omega)]
    exact ⟨_, List.mem_singleton_self _, hle, hlt⟩
  | cons d l ih =>
    intro first count bytes e hle hlt
    rw [List.length_cons] at hlt
    unfold groupsFrom
    split
    · by_cases hin : e < first + (count + 1)
      · exact ⟨_, List.mem_cons_self .., hle, hin⟩
      · obtain ⟨g, hg, hcover⟩ := ih (first + count + 1) 0 0 e (by omega) (by omega)
        exact ⟨g, List.mem_cons_of_mem _ hg, hcover⟩
    · exact ih first (count + 1) _ e hle (by omega)

theorem splitPeriod_loops_pos (cfg : Config) (g : Nat) : 1 ≤ (splitPeriod cfg g).2 := by
  unfold splitPeriod
  dsimp only
  split
  · next h => exact h.2.1
  · exact Nat.le_refl 1

/-- A step is executed at least once, has an entry, ends inside the list and moves no more bytes than the list has. -/
structure StepInside (bdl : List Bdle) (st : Step) : Prop where
  loops : 1 ≤ st.loops
  count : 1 ≤ st.count
  inside : st.first + st.count ≤ bdl.length
  bytes : st.bytes ≤ totalLen bdl

theorem buildSchedule_inside {cfg : Config} {bdl : List Bdle} {f : Fmt} {st : Step} (h : st ∈ buildSchedule cfg bdl f) :
    StepInside bdl st := by
  obtain ⟨g, hg, rfl⟩ := List.mem_map.mp h
  obtain ⟨hcount, hinside⟩ := groupsFrom_inside bdl 0 0 0 g hg
  have hloops : 1 ≤ (stepOf cfg f g).loops := splitPeriod_loops_pos cfg g.bytes
  have hsum : ((groups bdl).map (·.bytes)).sum = 0 + totalLen bdl := sum_bytes_groupsFrom bdl 0 0 0 fun _ => rfl
  have hgroup : g.bytes ≤ totalLen bdl := by
    have := List.le_sum_of_mem (List.mem_map_of_mem (f := (·.bytes)) hg)
    omega
  have hbytes : (stepOf cfg f g).bytes ≤ g.bytes := by
    rw [← stepOf_bytes_mul_loops cfg f g]
    exact Nat.le_mul_of_pos_right _ hloops
  exact ⟨hloops, hcount, by rw [stepOf_first, stepOf_count]; omega, hbytes.trans hgroup⟩

/-- The step that `schedIdx` of R309 looks for exists. -/
theorem stepContaining_some {cfg : Config} {bdl : List Bdle} {f : Fmt} {e : Nat} (h : e < bdl.length) :
    ∃ st, (buildSchedule cfg bdl f)[stepContaining (buildSchedule cfg bdl f) e]? = some st := by
  obtain ⟨g, hg, hle, hlt⟩ := groupsFrom_covers bdl 0 0 0 e (Nat.zero_le e) (by omega)
  have hstep : stepOf cfg f g ∈ buildSchedule cfg bdl f := List.mem_map_of_mem hg
  have hindex : stepContaining (buildSchedule cfg bdl f) e < (buildSchedule cfg bdl f).length := by
    refine List.findIdx_lt_length_of_exists ⟨_, hstep, ?_⟩
    exact decide_eq_true ⟨hle, hlt⟩
  exact ⟨_, List.getElem?_eq_getElem hindex⟩

/-- A list with an entry has a first step. -/
theorem buildSchedule_head {cfg : Config} {bdl : List Bdle} {f : Fmt} (h : 0 < bdl.length) :
    ∃ st, (buildSchedule cfg bdl f)[0]? = some st := by
  obtain ⟨g, rest, hgroups, _⟩ := groupsFrom_head bdl 0 0 0 (by omega)
  refine ⟨stepOf cfg f g, ?_⟩
  rw [buildSchedule_getElem?, show groups bdl = g :: rest from hgroups]
  rfl

/-! ### The moves of a transfer (R274) -/

section
variable {bdl : List Bdle} {cnt : Nat} {input : Bool}

/-- Nothing is left to move. -/
theorem xferLoop_zero (fuel : Nat) (mem : Memory) (e o : Nat) (src buf : List Byte) :
    xferLoop bdl cnt input fuel mem e o 0 src buf = .done e o mem buf := by
  cases fuel <;> rfl

/-- From the end of an entry to the next. -/
theorem xferLoop_next {d : Bdle} {e o rem : Nat} (he : bdl[e]? = some d) (ho : d.len.toNat ≤ o) (hrem : rem ≠ 0)
    (fuel : Nat) (mem : Memory) (src buf : List Byte) :
    xferLoop bdl cnt input (fuel + 1) mem e o rem src buf =
      xferLoop bdl cnt input fuel mem ((e + 1) % cnt) 0 rem src buf := by
  conv => lhs; unfold xferLoop
  rw [if_neg hrem, he]
  exact if_pos ho

/-- One access of the current entry. -/
theorem xferLoop_chunk {d : Bdle} {e o rem : Nat} (he : bdl[e]? = some d) (ho : o < d.len.toNat) (hrem : rem ≠ 0)
    (fuel : Nat) (mem : Memory) (src buf : List Byte) :
    (∃ m, xferLoop bdl cnt input (fuel + 1) mem e o rem src buf = .failed m) ∨
    ∃ mem' src' buf', (input = false → buf'.length = buf.length + min rem (d.len.toNat - o)) ∧
      xferLoop bdl cnt input (fuel + 1) mem e o rem src buf =
        xferLoop bdl cnt input fuel mem' e (o + min rem (d.len.toNat - o)) (rem - min rem (d.len.toNat - o)) src' buf' := by
  have hstep : xferLoop bdl cnt input (fuel + 1) mem e o rem src buf =
      (let c := min rem (d.len.toNat - o)
       if input then
         match mem.write (d.addr.toNat + o) (src.take c) with
         | none => .failed mem
         | some mem' => xferLoop bdl cnt input fuel mem' e (o + c) (rem - c) (src.drop c) buf
       else
         match mem.read (d.addr.toNat + o) c with
         | none => .failed mem
         | some x => xferLoop bdl cnt input fuel mem e (o + c) (rem - c) src (buf ++ x)) := by
    conv => lhs; unfold xferLoop
    rw [if_neg hrem, he]
    exact if_neg (Nat.not_le_of_lt ho)
  rw [hstep]
  dsimp only
  cases input with
  | true =>
    cases mem.write (d.addr.toNat + o) (src.take (min rem (d.len.toNat - o))) with
    | none => exact .inl ⟨mem, rfl⟩
    | some mem' => exact .inr ⟨mem', _, buf, fun h => (by cases h), rfl⟩
  | false =>
    cases hread : mem.read (d.addr.toNat + o) (min rem (d.len.toNat - o)) with
    | none => exact .inl ⟨mem, rfl⟩
    | some x =>
      exact .inr ⟨mem, src, _, fun _ => by rw [List.length_append, Memory.length_read hread], rfl⟩

/-- A transfer that completes ends inside the list, with all its bytes read if the stream plays. -/
theorem xferLoop_done (hcnt : 0 < cnt) {e' o' : Nat} {m : Memory} {out : List Byte} (fuel : Nat) :
    ∀ (mem : Memory) (e o rem : Nat) (src buf : List Byte), e < cnt →
      xferLoop bdl cnt input fuel mem e o rem src buf = .done e' o' m out →
      e' < cnt ∧ (input = false → out.length = buf.length + rem) := by
  induction fuel with
  | zero =>
    intro mem e o rem src buf he h
    unfold xferLoop at h
    split at h
    · next hrem =>
      cases h
      exact ⟨he, fun _ => by rw [hrem, Nat.add_zero]⟩
    · cases h
  | succ fuel ih =>
    intro mem e o rem src buf he h
    by_cases hrem : rem = 0
    · subst hrem
      rw [xferLoop_zero] at h
      cases h
      exact ⟨he, fun _ => rfl⟩
    · cases hd : bdl[e]? with
      | none =>
        unfold xferLoop at h
        rw [if_neg hrem, hd] at h
        cases h
      | some d =>
        rcases Nat.lt_or_ge o d.len.toNat with ho | ho
        · rcases xferLoop_chunk (cnt := cnt) (input := input) hd ho hrem fuel mem src buf with
            ⟨_, heq⟩ | ⟨mem', src', buf', hbuf, heq⟩
          · rw [heq] at h
            cases h
          · rw [heq] at h
            obtain ⟨hlt, hlen⟩ := ih _ _ _ _ _ _ he h
            refine ⟨hlt, fun hi => ?_⟩
            rw [hlen hi, hbuf hi]
            omega
        · rw [xferLoop_next hd ho hrem] at h
          exact ih _ _ _ _ _ _ (Nat.mod_lt _ hcnt) h

end

/-! ### The list supplies a step (R287) -/

/-- The bytes of the next `j` entries after entry `e`, going round. -/
def roundLen (bdl : List Bdle) (e j : Nat) : Nat := (((followers bdl e).take j).map fun d => d.len.toNat).sum

theorem roundLen_zero (bdl : List Bdle) (e : Nat) : roundLen bdl e 0 = 0 := by simp [roundLen]

theorem length_followers {bdl : List Bdle} {e : Nat} (he : e < bdl.length) : (followers bdl e).length = bdl.length := by
  unfold followers
  rw [List.length_append, List.length_drop, List.length_take]
  omega

/-- A whole round has the bytes of the list. -/
theorem roundLen_all {bdl : List Bdle} {e : Nat} (he : e < bdl.length) : roundLen bdl e bdl.length = totalLen bdl := by
  unfold roundLen
  rw [← length_followers he, List.take_length]
  exact sum_followers bdl e

/-- One entry less to go round. -/
theorem roundLen_succ {bdl : List Bdle} {e j : Nat} (he : e < bdl.length) (hj : j < bdl.length) :
    ∃ d, bdl[(e + 1) % bdl.length]? = some d ∧
      roundLen bdl e (j + 1) = d.len.toNat + roundLen bdl ((e + 1) % bdl.length) j := by
  obtain ⟨d, tl, hd, hhere, hnext⟩ := followers_step bdl e he
  have hlen : tl.length + 1 = bdl.length := by rw [← length_followers he, hhere, List.length_cons]
  refine ⟨d, hd, ?_⟩
  unfold roundLen
  rw [hhere, hnext, List.take_succ_cons, List.map_cons, List.sum_cons, List.take_append_of_le_length (by omega)]

/-- From the end of an entry, `j` entries that have the bytes supply them within `2 * j` moves. -/
def Supplies (bdl : List Bdle) (input : Bool) (j : Nat) : Prop :=
  ∀ (fuel : Nat) (mem : Memory) (e o rem : Nat) (src buf : List Byte) (d : Bdle), bdl[e]? = some d → d.len.toNat ≤ o →
    rem ≤ roundLen bdl e j → 2 * j ≤ fuel → xferLoop bdl bdl.length input fuel mem e o rem src buf ≠ .exhausted

/-- From inside an entry, its rest may count as well, for one move more. -/
theorem Supplies.inside {bdl : List Bdle} {input : Bool} {j : Nat} (h : Supplies bdl input j) {fuel e o rem : Nat}
    {d : Bdle} (hd : bdl[e]? = some d) (hrem : rem ≤ (d.len.toNat - o) + roundLen bdl e j) (hfuel : 2 * j + 1 ≤ fuel)
    (mem : Memory) (src buf : List Byte) : xferLoop bdl bdl.length input fuel mem e o rem src buf ≠ .exhausted := by
  rcases Nat.lt_or_ge o d.len.toNat with ho | ho
  · by_cases hzero : rem = 0
    · subst hzero
      rw [xferLoop_zero]
      exact Xfer.noConfusion
    · obtain ⟨fuel, rfl⟩ : ∃ k, fuel = k + 1 := ⟨fuel - 1, by omega⟩
      rcases xferLoop_chunk (cnt := bdl.length) (input := input) hd ho hzero fuel mem src buf with
        ⟨_, heq⟩ | ⟨mem', src', buf', _, heq⟩
      · rw [heq]
        exact Xfer.noConfusion
      · rw [heq]
        rcases Nat.le_total rem (d.len.toNat - o) with hle | hle
        · rw [Nat.min_eq_left hle, Nat.sub_self, xferLoop_zero]
          exact Xfer.noConfusion
        · rw [Nat.min_eq_right hle]
          exact h _ _ _ _ _ _ _ _ hd (by omega) (by omega) (by omega)
  · exact h _ _ _ _ _ _ _ _ hd ho (by omega) (by omega)

theorem supplies {bdl : List Bdle} (input : Bool) : ∀ j ≤ bdl.length, Supplies bdl input j := by
  intro j
  induction j with
  | zero =>
    intro _ fuel mem e o rem src buf d _ _ hrem _
    rw [roundLen_zero] at hrem
    obtain rfl := Nat.le_zero.mp hrem
    rw [xferLoop_zero]
    exact Xfer.noConfusion
  | succ j ih =>
    intro hj fuel mem e o rem src buf d hd ho hrem hfuel
    obtain ⟨d', hd', hround⟩ := roundLen_succ (List.getElem?_eq_some_iff.mp hd).1 hj
    by_cases hzero : rem = 0
    · subst hzero
      rw [xferLoop_zero]
      exact Xfer.noConfusion
    · obtain ⟨fuel, rfl⟩ : ∃ k, fuel = k + 1 := ⟨fuel - 1, by omega⟩
      rw [xferLoop_next hd ho hzero]
      exact (ih (by omega)).inside hd' (by omega) (by omega) _ _ _

/-- A list whose bytes are enough never leaves a transfer short, wherever it begins (R287). -/
theorem xferLoop_not_exhausted {bdl : List Bdle} {e b : Nat} (he : e < bdl.length) (hb : b ≤ totalLen bdl) (input : Bool)
    (mem : Memory) (o : Nat) (src buf : List Byte) :
    xferLoop bdl bdl.length input (2 * bdl.length + 1) mem e o b src buf ≠ .exhausted := by
  refine (supplies input bdl.length (Nat.le_refl _)).inside (List.getElem?_eq_getElem he) ?_ (Nat.le_refl _) _ _ _
  rw [roundLen_all he]
  exact hb.trans (Nat.le_add_left _ _)

end Sys2Proof.Machine
end

section
/-! When a stream is in order (10_state.md R60, R61 b, c, f, g, h): what the invariant reads, and the states in which it
holds: an engine that is not armed, one that a start or a RESTORE arms. -/

namespace Sys2Proof.Machine

/-! ### What the invariant reads -/

/-- The register files agree on what is read of stream `n`: SRST and RUN, and every register but SDCTL and SDSTS. -/
structure SameStr (n : Stream) (f g : RegFile) : Prop where
  srst : g.srst n = f.srst n
  run : g.run n = f.run n
  rest : ∀ k, k ≠ .ctl → k ≠ .sts → g.rd (.str k n) = f.rd (.str k n)

theorem SameStr.of_rd {n : Stream} {f g : RegFile} (h : ∀ k, k ≠ .sts → g.rd (.str k n) = f.rd (.str k n)) :
    SameStr n f g := by
  refine ⟨?_, ?_, fun k _ hk => h k hk⟩
  · unfold RegFile.srst
    rw [h .ctl (by decide)]
  · unfold RegFile.run
    rw [h .ctl (by decide)]

theorem SameStr.refl (n : Stream) (f : RegFile) : SameStr n f f := ⟨rfl, rfl, fun _ _ _ => rfl⟩

theorem SameStr.lpib {n : Stream} {f g : RegFile} (h : SameStr n f g) : g.rd (.str .lpib n) = f.rd (.str .lpib n) :=
  h.rest .lpib (by decide) (by decide)

theorem SameStr.fmt {n : Stream} {f g : RegFile} (h : SameStr n f g) : g.rd (.str .fmt n) = f.rd (.str .fmt n) :=
  h.rest .fmt (by decide) (by decide)

theorem SameStr.cbl {n : Stream} {f g : RegFile} (h : SameStr n f g) : g.cbl n = f.cbl n := by
  unfold RegFile.cbl
  rw [h.rest .cbl (by decide) (by decide)]

theorem SameStr.entryCount {n : Stream} {f g : RegFile} (h : SameStr n f g) : g.entryCount n = f.entryCount n := by
  unfold RegFile.entryCount
  rw [h.rest .lvi (by decide) (by decide)]

/-- The register files agree on CRST as well. -/
structure SameRegs (n : Stream) (f g : RegFile) : Prop extends SameStr n f g where
  crst : g.crst = f.crst

theorem SameRegs.refl (n : Stream) (f : RegFile) : SameRegs n f f := ⟨SameStr.refl n f, rfl⟩

/-- The status is not read. -/
theorem sameRegs_putSts (n : Stream) (f : RegFile) (v : Word) : SameRegs n f (f.put (.str .sts n) v) :=
  ⟨SameStr.of_rd fun k hk => by simp [hk], by simp [RegFile.crst]⟩

/-- What an armed engine's invariant reads of its record is equal. -/
structure SameEngine (d d' : Dma) : Prop where
  running : d'.running = d.running
  inReset : d'.inReset = d.inReset
  curEntry : d'.curEntry = d.curEntry
  bdl : d'.bdl = d.bdl
  sched : d'.sched = d.sched
  schedIdx : d'.schedIdx = d.schedIdx
  schedLoop : d'.schedLoop = d.schedLoop

/-- The ring is equal as well. -/
structure SameDma (d d' : Dma) : Prop extends SameEngine d d' where
  ring : d'.ring = d.ring

theorem SameDma.refl (d : Dma) : SameDma d d := ⟨⟨rfl, rfl, rfl, rfl, rfl, rfl, rfl⟩, rfl⟩

theorem RegFile.StreamLegal.congr {f g : RegFile} {n : Stream} (h : f.StreamLegal n) (hs : SameStr n f g) :
    g.StreamLegal n := by
  refine ⟨fun hsrst => ?_, fun hrun => ?_⟩
  · rw [hs.run]
    exact h.resetStops (hs.srst ▸ hsrst)
  · rw [hs.lpib, hs.cbl]
    exact h.position (hs.run ▸ hrun)

theorem Dma.Armed.congr {cfg : Config} {f g : RegFile} {n : Stream} {d d' : Dma} (h : d.Armed cfg f n)
    (hs : SameRegs n f g) (hd : SameEngine d d') : d'.Armed cfg g n := by
  refine ⟨hs.crst.trans h.crst, hs.run.trans h.run, hs.srst.trans h.srst, ?_, ?_, ?_, ?_, ?_, ?_, ?_⟩
  · rw [hd.bdl, hs.entryCount]
    exact h.entries
  · rw [hd.bdl, hs.cbl]
    exact h.total
  · rw [hs.cbl]
    exact h.nonempty
  · rw [hs.fmt, hd.sched, hd.bdl]
    exact h.schedule
  · rw [hd.sched, hd.schedIdx, hd.schedLoop]
    exact h.step
  · rw [hd.curEntry, hs.entryCount]
    exact h.entry
  · rw [hs.lpib, hs.cbl]
    exact h.lpib

/-- From `s` to `t` nothing that stream `n`'s invariant reads changed. -/
structure SameStream (n : Stream) (s t : State) : Prop where
  cfg : t.cfg = s.cfg
  regs : SameRegs n s.regs t.regs
  dma : SameDma (s.dmaOf n) (t.dmaOf n)

theorem StreamOk.congr {s t : State} {n : Stream} (h : StreamOk s n) (hs : SameStream n s t) : StreamOk t n := by
  refine ⟨h.registers.congr hs.regs.toSameStr, ?_, fun hrun => ?_, fun hrun => ?_, ?_⟩
  · rw [hs.dma.inReset, hs.regs.srst]
    exact h.inReset
  · rw [hs.cfg]
    exact (h.armed (hs.dma.running ▸ hrun)).congr hs.regs hs.dma.toSameEngine
  · rw [hs.dma.ring]
    exact h.idle (hs.dma.running ▸ hrun)
  · rw [hs.dma.ring, hs.cfg]
    exact h.bounded

/-- The registers of a stream are its own: what happens to another changes none. -/
theorem OnlyStream.sameStream {m n : Stream} {s t : State} (h : OnlyStream m s t) (hn : n ≠ m) : SameStream n s t := by
  refine ⟨h.quiet.cfg, ⟨SameStr.of_rd fun k _ => h.str hn k, ?_⟩, h.dma n hn ▸ SameDma.refl _⟩
  unfold RegFile.crst
  rw [h.glob]

/-! ### An engine that is not armed -/

/-- A stream whose engine is not armed and whose ring is empty is in order if its registers are. -/
theorem streamOk_idle {s : State} {n : Stream} (hlegal : s.regs.StreamLegal n)
    (hreset : (s.dmaOf n).inReset = s.regs.srst n) (hrunning : (s.dmaOf n).running = false)
    (hring : (s.dmaOf n).ring = []) : StreamOk s n := by
  refine ⟨hlegal, hreset, fun h => ?_, fun _ => hring, ?_⟩
  · rw [hrunning] at h
    cases h
  · rw [hring]
    exact Nat.zero_le _

/-- Registers that say Reset or Stopped are in order. -/
theorem streamLegal_of_not_run {f : RegFile} {n : Stream} (h : f.run n = false) : f.StreamLegal n := by
  refine ⟨fun _ => h, fun hrun => ?_⟩
  rw [h] at hrun
  cases hrun

/-- Reset registers with an engine at its reset column are in order. -/
theorem streamOk_reset {s : State} {n : Stream} (hregs : s.regs = resetRegs) (hdma : s.dmaOf n = Dma.reset) :
    StreamOk s n := by
  have hctl : ∀ n : Stream, resetRegs.srst n = false ∧ resetRegs.run n = false := by decide +kernel
  obtain ⟨hsrst, hrun⟩ := hctl n
  rw [← hregs] at hsrst hrun
  exact streamOk_idle (streamLegal_of_not_run hrun) (by rw [hdma, hsrst]; rfl) (by rw [hdma]; rfl) (by rw [hdma]; rfl)

/-- In order, an engine whose stream does not run is not armed. -/
theorem StreamOk.not_armed {s : State} {n : Stream} (h : StreamOk s n) (hrun : s.regs.run n = false) :
    (s.dmaOf n).running = false := by
  rw [Bool.eq_false_iff]
  intro harmed
  rw [(h.armed harmed).run] at hrun
  cases hrun

/-! ### Arming an engine (R262 to R264, R309) -/

/-- The registers ask stream `n` to run and its engine is not armed: where a start or a RESTORE has it before, and
leaves it if the engine cannot be armed. -/
structure Waiting (s : State) (n : Stream) : Prop where
  crst : s.regs.crst = true
  run : s.regs.run n = true
  srst : s.regs.srst n = false
  legal : s.regs.StreamLegal n
  inReset : (s.dmaOf n).inReset = false
  running : (s.dmaOf n).running = false
  ring : (s.dmaOf n).ring = []

theorem Waiting.streamOk {s : State} {n : Stream} (h : Waiting s n) : StreamOk s n :=
  streamOk_idle h.legal (h.inReset.trans h.srst.symm) h.running h.ring

theorem Waiting.congr {s t : State} {n : Stream} (h : Waiting s n) (hs : SameRegs n s.regs t.regs)
    (hreset : (t.dmaOf n).inReset = (s.dmaOf n).inReset) (hrunning : (t.dmaOf n).running = (s.dmaOf n).running)
    (hring : (t.dmaOf n).ring = (s.dmaOf n).ring) : Waiting t n :=
  ⟨hs.crst.trans h.crst, hs.run.trans h.run, hs.srst.trans h.srst, h.legal.congr hs.toSameStr, hreset.trans h.inReset,
    hrunning.trans h.running, hring.trans h.ring⟩

/-- The list's entries are taken in (R108). -/
theorem Waiting.loadBdl {s : State} {n : Stream} (h : Waiting s n) (bytes : List Byte) :
    Waiting (loadBdl n bytes s) n := by
  have hdma := loadBdl_dmaOf n bytes s
  refine h.congr ?_ ?_ ?_ ?_
  · rw [loadBdl_regs]
    exact SameRegs.refl n _
  · rw [hdma]
  · rw [hdma]
  · rw [hdma]

theorem entries_loadBdl (n : Stream) (bytes : List Byte) (s : State) :
    ((loadBdl n bytes s).dmaOf n).bdl.length = (loadBdl n bytes s).regs.entryCount n := by
  rw [loadBdl_dmaOf, loadBdl_regs]
  exact length_decodeBdl _ _

/-- What an accepted start has checked (R263). -/
theorem startFormat_some {s : State} {n : Stream} {bdl : List Bdle} {f : Fmt} (h : startFormat s n bdl = some f) :
    s.regs.cbl n ≠ 0 ∧ totalLen bdl = s.regs.cbl n ∧ decodeFmt (s.regs.rd (.str .fmt n)) = some f := by
  unfold startFormat at h
  split at h
  · next hc => exact ⟨hc.1, hc.2.2, h⟩
  · cases h

/-- The record of an engine armed in `s` with format `f`, at a position inside list and schedule. -/
structure ArmedFrom (s : State) (n : Stream) (f : Fmt) (d : Dma) : Prop where
  running : d.running = true
  inReset : d.inReset = (s.dmaOf n).inReset
  bdl : d.bdl = (s.dmaOf n).bdl
  sched : d.sched = buildSchedule s.cfg (s.dmaOf n).bdl f
  step : ∃ st, d.sched[d.schedIdx]? = some st ∧ d.schedLoop < st.loops
  entry : d.curEntry < s.regs.entryCount n
  ring : d.ring.length ≤ s.cfg.ringBytes.get n

/-- An engine armed after the checks of R263 is in order. -/
theorem Waiting.armed {s t : State} {n : Stream} (h : Waiting s n) {f : Fmt}
    (hformat : startFormat s n (s.dmaOf n).bdl = some f) (hentries : (s.dmaOf n).bdl.length = s.regs.entryCount n)
    (hregs : t.regs = s.regs) (hcfg : t.cfg = s.cfg) (hd : ArmedFrom s n f (t.dmaOf n)) : StreamOk t n := by
  obtain ⟨hnonempty, htotal, hdecode⟩ := startFormat_some hformat
  have hlpib : (s.regs.rd (.str .lpib n)).toNat < s.regs.cbl n := by
    rcases h.legal.position h.run with hzero | hlt
    · rw [hzero]
      exact Nat.pos_of_ne_zero hnonempty
    · exact hlt
  have harmed : (t.dmaOf n).Armed t.cfg t.regs n := by
    rw [hregs, hcfg]
    refine ⟨h.crst, h.run, h.srst, ?_, ?_, hnonempty, ⟨f, hdecode, ?_⟩, hd.step, hd.entry, hlpib⟩
    · rw [hd.bdl, hentries]
    · rw [hd.bdl, htotal]
    · rw [hd.sched, hd.bdl]
  refine ⟨hregs ▸ h.legal, ?_, fun _ => harmed, fun hrun => ?_, ?_⟩
  · rw [hregs, hd.inReset, h.inReset, h.srst]
  · rw [hd.running] at hrun
    cases hrun
  · rw [hcfg]
    exact hd.ring

/-! ### A start (R262 to R264) -/

theorem waiting_startPosition {s : State} {n : Stream} (hcrst : s.regs.crst = true) (hrun : s.regs.run n = true)
    (hsrst : s.regs.srst n = false) (hreset : (s.dmaOf n).inReset = false) : Waiting (startPosition s n) n := by
  have hdma := startPosition_dmaOf n s
  have hctl : (startPosition s n).regs.rd (.str .ctl n) = s.regs.rd (.str .ctl n) := by simp [startPosition_rd]
  have hsrst' : (startPosition s n).regs.srst n = false := by
    unfold RegFile.srst
    rwa [hctl]
  refine ⟨?_, ?_, hsrst', ⟨fun h => ?_, fun _ => .inl ?_⟩, ?_, ?_, ?_⟩
  · unfold RegFile.crst
    rwa [startPosition_rd, if_neg (by simp)]
  · unfold RegFile.run
    rwa [hctl]
  · rw [hsrst'] at h
    cases h
  · rw [startPosition_rd, if_pos rfl]
  · rw [hdma]
    exact hreset
  · rw [hdma]
    rfl
  · rw [hdma]
    rfl

/-- Arming with the list taken in, the position and the schedule's at their start. -/
theorem streamOk_startLoaded {s : State} {n : Stream} (h : Waiting s n)
    (hentries : (s.dmaOf n).bdl.length = s.regs.entryCount n) (hentry : (s.dmaOf n).curEntry = 0)
    (hidx : (s.dmaOf n).schedIdx = 0) (hloop : (s.dmaOf n).schedLoop = 0) : StreamOk (startLoaded n s) n := by
  unfold startLoaded
  cases hformat : startFormat s n (s.dmaOf n).bdl with
  | none => exact (h.congr (t := refuseStart n s) (SameRegs.refl n _) rfl rfl rfl).streamOk
  | some f =>
    have hcount : 0 < s.regs.entryCount n := Nat.succ_pos _
    obtain ⟨st, hst⟩ := buildSchedule_head (cfg := s.cfg) (f := f) (hentries.symm ▸ hcount)
    have hloops := (buildSchedule_inside (List.mem_of_getElem? hst)).loops
    have hdma := armStream_dmaOf n f s
    refine h.armed hformat hentries (armStream_regs n f s) (onlyStream_armStream n f s).quiet.cfg ?_
    rw [hdma]
    refine ⟨rfl, rfl, rfl, rfl, ⟨st, ?_, ?_⟩, ?_, ?_⟩
    · rw [hidx]
      exact hst
    · rw [hloop]
      exact hloops
    · rw [hentry]
      exact hcount
    · rw [h.ring]
      exact Nat.zero_le _

/-- A start leaves its stream in order, whether it is accepted or not. -/
theorem streamOk_sdStart {s : State} {n : Stream} (hcrst : s.regs.crst = true) (hrun : s.regs.run n = true)
    (hsrst : s.regs.srst n = false) (hreset : (s.dmaOf n).inReset = false) : StreamOk (sdStart n s) n := by
  have hwait := waiting_startPosition hcrst hrun hsrst hreset
  have hdma := startPosition_dmaOf n s
  unfold sdStart startFetch
  split
  · have hsts : SameRegs n (startPosition s n).regs
        ((startPosition s n).regs.put (.str .sts n) ((startPosition s n).regs.rd (.str .sts n) ||| deseBit)) :=
      sameRegs_putSts n _ _
    exact (hwait.congr (t := refuseStart n (((startPosition s n).raise .fatal).orReg (.str .sts n) deseBit))
      hsts rfl rfl rfl).streamOk
  · next bytes _ =>
    have hloaded := loadBdl_dmaOf n bytes (startPosition s n)
    rw [hdma] at hloaded
    refine streamOk_startLoaded (hwait.loadBdl bytes) (entries_loadBdl n bytes _) ?_ ?_ ?_
    · rw [hloaded]
      rfl
    · rw [hloaded]
      rfl
    · rw [hloaded]
      rfl

end Sys2Proof.Machine
end

section
/-! The writes and the streams (40_mmio_dispatch.md R138, 43_stream_registers.md R231 to R236): which handlers a stream
does not see, and how SDCTL, SDSTS and the guarded registers leave their stream in order. -/

namespace Sys2Proof.Machine

/-! ### Handlers a stream does not see -/

/-- From `s` to `t` no stream register, no engine and not CRST changed. -/
structure NoStream (s t : State) : Prop where
  cfg : t.cfg = s.cfg
  dma : t.dma = s.dma
  crst : t.regs.crst = s.regs.crst
  str : ∀ k n, t.regs.rd (.str k n) = s.regs.rd (.str k n)

theorem NoStream.sameStream {s t : State} (h : NoStream s t) (n : Stream) : SameStream n s t :=
  ⟨h.cfg, ⟨SameStr.of_rd fun k _ => h.str k n, h.crst⟩, State.dmaOf_congr h.dma n ▸ SameDma.refl _⟩

theorem NoStream.trans {s t u : State} (h : NoStream s t) (k : NoStream t u) : NoStream s u :=
  ⟨k.cfg.trans h.cfg, k.dma.trans h.dma, k.crst.trans h.crst, fun q n => (k.str q n).trans (h.str q n)⟩

theorem noStream_of_eq {s t : State} (hcfg : t.cfg = s.cfg) (hdma : t.dma = s.dma) (hregs : t.regs = s.regs) :
    NoStream s t := ⟨hcfg, hdma, by rw [hregs], fun _ _ => by rw [hregs]⟩

theorem noStream_setReg (s : State) {g : GReg} (hg : g ≠ .gctl) (v : Word) : NoStream s (s.setReg (.glob g) v) :=
  ⟨rfl, rfl, crst_setReg s v (by simpa using hg), fun k n => by simp⟩

theorem NoStream.setReg {s u : State} (h : NoStream s u) {g : GReg} (hg : g ≠ .gctl) (v : Word) :
    NoStream s (u.setReg (.glob g) v) := h.trans (noStream_setReg u hg v)

theorem NoStream.kickIfRunning {s u : State} (h : NoStream s u) : NoStream s (kickIfRunning u) := by
  rw [kickIfRunning_eq]
  exact h.trans (noStream_of_eq rfl rfl rfl)

theorem NoStream.refl (s : State) : NoStream s s := noStream_of_eq rfl rfl rfl

theorem noStream_wCorbrp (val : Word) (s : State) : NoStream s (wCorbrp val s) := by
  unfold wCorbrp
  split
  · split
    · exact noStream_of_eq rfl rfl rfl
    · refine NoStream.setReg ?_ (by decide) _
      exact noStream_of_eq rfl rfl rfl
  · split
    · exact ((NoStream.refl s).setReg (by decide) _).kickIfRunning
    · exact noStream_of_eq rfl rfl rfl

theorem noStream_wCorbwp (val : Word) (s : State) : NoStream s (wCorbwp val s) := by
  obtain ⟨c, heq⟩ := wCorbwp_eq val s
  rw [heq]
  refine NoStream.setReg ?_ (by decide) _
  exact noStream_of_eq rfl rfl rfl

theorem noStream_wCorbsize (val : Word) (s : State) : NoStream s (wCorbsize val s) := by
  unfold wCorbsize
  split
  · exact noStream_of_eq rfl rfl rfl
  · split
    · exact noStream_of_eq rfl rfl rfl
    · exact (((NoStream.refl s).setReg (by decide) _).setReg (by decide) _).setReg (by decide) _

theorem noStream_wRirbwp (val : Word) (s : State) : NoStream s (wRirbwp val s) := by
  unfold wRirbwp
  split
  · split
    · exact noStream_of_eq rfl rfl rfl
    · refine NoStream.setReg ?_ (by decide) _
      exact noStream_of_eq rfl rfl rfl
  · exact noStream_of_eq rfl rfl rfl

theorem noStream_wRirbsize (val : Word) (s : State) : NoStream s (wRirbsize val s) := by
  unfold wRirbsize
  split
  · exact noStream_of_eq rfl rfl rfl
  · split
    · exact noStream_of_eq rfl rfl rfl
    · exact ((NoStream.refl s).setReg (by decide) _).setReg (by decide) _

/-- No handler of a global register but GCTL's touches a stream. -/
theorem noStream_writeHandler {g : GReg} (hg : g ≠ .gctl) (val : Word) (s : State) :
    NoStream s (writeHandler (.glob g) val s) := by
  cases g with
  | gctl => exact absurd rfl hg
  | gcap | vmin | vmaj | outpay | inpay | intsts | walclk => exact noStream_of_eq rfl rfl rfl
  | wakeen | statests | gsts | intctl | corblbase | corbubase | corbsts | rirblbase | rirbubase | rintcnt | rirbctl
  | rirbsts => exact noStream_setReg s hg _
  | corbwp => exact noStream_wCorbwp val s
  | corbrp => exact noStream_wCorbrp val s
  | corbctl => exact (noStream_setReg s hg _).kickIfRunning
  | corbsize => exact noStream_wCorbsize val s
  | rirbwp => exact noStream_wRirbwp val s
  | rirbsize => exact noStream_wRirbsize val s

/-- A handler of a stream register touches no other stream. -/
theorem onlyStream_writeHandler (k : SReg) (n : Stream) (val : Word) (s : State) :
    OnlyStream n s (writeHandler (.str k n) val s) := by
  have hguard : OnlyStream n s (wSdguard n (.str k n) val s) := by
    unfold wSdguard
    split
    · exact onlyStream_of_eq (s := s) (t := (s.raise .timingViolation).countDroppedWhileRunning)
        ⟨rfl, rfl, rfl, rfl, rfl, rfl, rfl, rfl, rfl, rfl⟩ rfl rfl rfl rfl rfl rfl rfl
    · exact onlyStream_setReg s n k _
  cases k with
  | ctl => exact onlyStream_wSdctl n val s
  | sts => exact onlyStream_wSdsts n val s
  | lpib | fifos => exact OnlyStream.refl n s
  | cbl | lvi | fifow | fmt | bdpl | bdpu => exact hguard

/-! ### SDCTL (R231 to R233) -/

theorem fullMask_ctl : ∀ n : Stream, (Reg.str .ctl n).fullMask = 0xFFFFFF := by decide

theorem srst_putCtl (f : RegFile) (n : Stream) (v : Word) : (f.put (.str .ctl n) v).srst n = v.getLsbD 0 := by
  unfold RegFile.srst
  rw [RegFile.rd_put_same, fullMask_ctl]
  exact getLsbD_masked v _ 0 rfl

theorem run_putCtl (f : RegFile) (n : Stream) (v : Word) : (f.put (.str .ctl n) v).run n = v.getLsbD 1 := by
  unfold RegFile.run
  rw [RegFile.rd_put_same, fullMask_ctl]
  exact getLsbD_masked v _ 1 rfl

theorem sdDisable_dmaOf_self (n : Stream) (s : State) : (sdDisable n s).dmaOf n = (s.dmaOf n).disabled := by
  rw [sdDisable_dmaOf]
  unfold Dma.disabled
  cases (s.dmaOf n).running <;> simp

theorem Dma.disabled_inReset (d : Dma) : d.disabled.inReset = d.inReset := by
  unfold Dma.disabled
  split <;> rfl

theorem Dma.disabled_ring {d : Dma} (h : d.running = false → d.ring = []) : d.disabled.ring = [] := by
  unfold Dma.disabled
  split
  · rfl
  · next hrun => exact h (Bool.eq_false_iff.mpr hrun)

theorem setInReset_dmaOf (n : Stream) (b : Bool) (s : State) :
    (setInReset n b s).dmaOf n = { s.dmaOf n with inReset := b } := by simp [setInReset]

theorem storeSdctl_dmaOf (n : Stream) (new : Word) (s : State) :
    (storeSdctl n new s).dmaOf n = { s.dmaOf n with inReset := false } := setInReset_dmaOf n false s

/-- In Reset the stream does not run and its engine is not armed (R231). -/
theorem streamOk_held {s : State} {n : Stream} (hrunning : (s.dmaOf n).running = false) (hring : (s.dmaOf n).ring = []) :
    StreamOk (setInReset n true (s.setReg (.str .ctl n) 0x040001)) n := by
  have hdma := setInReset_dmaOf n true (s.setReg (.str .ctl n) 0x040001)
  refine streamOk_idle (streamLegal_of_not_run (run_putCtl s.regs n _)) ?_ ?_ ?_
  · rw [hdma]
    exact (srst_putCtl s.regs n 0x040001).symm
  · rw [hdma]
    exact hrunning
  · rw [hdma]
    exact hring

theorem streamOk_holdStreamReset {s : State} {n : Stream} (h : StreamOk s n) : StreamOk (holdStreamReset n s) n := by
  unfold holdStreamReset
  split
  · next hsrst =>
    have hrunning := h.not_armed (h.registers.resetStops hsrst)
    exact streamOk_held hrunning (h.idle hrunning)
  · have hdma : (sdReset n (sdDisable n s)).dmaOf n = Dma.reset := by rw [sdReset_dmaOf, if_pos rfl]
    exact streamOk_held (by rw [hdma]; rfl) (by rw [hdma]; rfl)

/-- A write of SDCTL with SRST = 0 that leaves RUN as it is (R233). -/
theorem streamOk_storeSdctl_same {s : State} {n : Stream} (h : StreamOk s n) {new : Word} (hsrst : new.getLsbD 0 = false)
    (hrun : new.getLsbD 1 = s.regs.run n) : StreamOk (storeSdctl n new s) n := by
  have hdma := storeSdctl_dmaOf n new s
  have hsrst' : (storeSdctl n new s).regs.srst n = false := (srst_putCtl s.regs n new).trans hsrst
  have hrun' : (storeSdctl n new s).regs.run n = s.regs.run n := (run_putCtl s.regs n new).trans hrun
  cases hr : s.regs.run n with
  | true =>
    have hold : s.regs.srst n = false := by
      rw [Bool.eq_false_iff]
      intro hold
      rw [h.registers.resetStops hold] at hr
      cases hr
    refine h.congr ⟨rfl, ⟨⟨hsrst'.trans hold.symm, hrun', fun k hk _ => ?_⟩, ?_⟩, ?_⟩
    · exact RegFile.rd_put_of_ne _ (by simpa using hk) _
    · exact crst_setReg (setInReset n false s) new (by simp)
    · rw [hdma]
      exact ⟨⟨rfl, (h.inReset.trans hold).symm, rfl, rfl, rfl, rfl, rfl⟩, rfl⟩
  | false =>
    have hrunning := h.not_armed hr
    refine streamOk_idle (streamLegal_of_not_run (hrun'.trans hr)) ?_ ?_ ?_
    · rw [hdma, hsrst']
    · rw [hdma]
      exact hrunning
    · rw [hdma]
      exact h.idle hrunning

theorem streamOk_wSdctl {s : State} {n : Stream} (hcrst : s.regs.crst = true) (h : StreamOk s n) (val : Word) :
    StreamOk (wSdctl n val s) n := by
  have hdma := storeSdctl_dmaOf n (val &&& 0xFF001F) s
  have hsrst := srst_putCtl s.regs n (val &&& 0xFF001F)
  have hrun := run_putCtl s.regs n (val &&& 0xFF001F)
  rcases wSdctl_cases n val s with heq | ⟨hzero, ⟨hnew, _, heq⟩ | ⟨hnew, _, heq⟩ | ⟨hnew, heq⟩⟩
  · exact heq ▸ streamOk_holdStreamReset h
  · rw [heq]
    refine streamOk_sdStart ?_ (hrun.trans hnew) (hsrst.trans hzero) (by rw [hdma])
    exact (crst_setReg (setInReset n false s) _ (by simp)).trans hcrst
  · rw [heq]
    refine streamOk_idle ?_ ?_ (sdDisable_not_running n _) ?_
    · rw [sdDisable_regs]
      exact streamLegal_of_not_run (hrun.trans hnew)
    · rw [sdDisable_regs, sdDisable_dmaOf_self, Dma.disabled_inReset, hdma]
      exact (hsrst.trans hzero).symm
    · rw [sdDisable_dmaOf_self, hdma]
      exact Dma.disabled_ring h.idle
  · exact heq ▸ streamOk_storeSdctl_same h hzero hnew

/-! ### Every write -/

theorem streamOk_wSdsts {s : State} {n : Stream} (h : StreamOk s n) (val : Word) : StreamOk (wSdsts n val s) n := by
  rw [wSdsts_eq]
  refine h.congr ⟨rfl, sameRegs_putSts n _ _, ?_⟩
  rw [State.dmaOf_setDma, if_pos rfl]
  exact ⟨⟨rfl, rfl, rfl, rfl, rfl, rfl, rfl⟩, rfl⟩

/-- The guarded registers change only while the stream does not run (R236). -/
theorem streamOk_wSdguard {s : State} {n : Stream} (h : StreamOk s n) {k : SReg} (hk : k ≠ .ctl) (val : Word) :
    StreamOk (wSdguard n (.str k n) val s) n := by
  unfold wSdguard
  split
  · exact h.congr ⟨rfl, SameRegs.refl n _, SameDma.refl _⟩
  · next hrun =>
    have hstopped : s.regs.run n = false := Bool.eq_false_iff.mpr hrun
    have hrunning := h.not_armed hstopped
    have hctl (v : Word) : (s.regs.put (.str k n) v).rd (.str .ctl n) = s.regs.rd (.str .ctl n) :=
      RegFile.rd_put_of_ne _ (by simpa using hk.symm) v
    refine streamOk_idle (streamLegal_of_not_run ?_) ?_ hrunning (h.idle hrunning)
    · unfold wPlain RegFile.run
      rw [State.setReg_regs, hctl]
      exact hstopped
    · unfold wPlain RegFile.srst
      rw [State.setReg_regs, hctl]
      exact h.inReset

theorem streamOk_strHandler {s : State} {n : Stream} (hcrst : s.regs.crst = true) (h : StreamOk s n) (k : SReg)
    (val : Word) : StreamOk (writeHandler (.str k n) val s) n := by
  cases k with
  | ctl => exact streamOk_wSdctl hcrst h val
  | sts => exact streamOk_wSdsts h val
  | lpib | fifos => exact h
  | cbl | lvi | fifow | fmt | bdpl | bdpu => exact streamOk_wSdguard h (by decide) val

theorem crst_putGctl (f : RegFile) (v : Word) : (f.put (.glob .gctl) v).crst = v.getLsbD 0 := by
  unfold RegFile.crst
  rw [RegFile.rd_put_same]
  exact getLsbD_masked v _ 0 rfl

/-- Held in reset, no engine is armed (R61 b). -/
theorem StreamOk.not_armed_held {s : State} {n : Stream} (h : StreamOk s n) (hcrst : s.regs.crst = false) :
    (s.dmaOf n).running = false := by
  rw [Bool.eq_false_iff]
  intro harmed
  rw [(h.armed harmed).crst] at hcrst
  cases hcrst

theorem streamOk_wGctl {s : State} {n : Stream} (h : StreamOk s n) (val : Word) : StreamOk (wGctl val s) n := by
  have hstr (f : RegFile) (hf : ∀ k, f.rd (.str k n) = s.regs.rd (.str k n)) : SameStr n s.regs f :=
    SameStr.of_rd fun k _ => hf k
  unfold wGctl
  dsimp only
  split
  · next hnew =>
    have hset := hstr (s.regs.put (.glob .gctl) (val &&& 0x00000103)) fun k => by simp
    split
    · next hcrst => exact h.congr ⟨rfl, ⟨hset, (crst_putGctl _ _).trans (hnew.trans hcrst.symm)⟩, SameDma.refl _⟩
    · next hcrst =>
      have hrunning := h.not_armed_held (Bool.eq_false_iff.mpr hcrst)
      have hleave := hstr (leaveReset (s.setReg (.glob .gctl) (val &&& 0x00000103))).regs fun k => by
        simp [leaveReset_eq]
      refine streamOk_idle (h.registers.congr hleave) ?_ hrunning (h.idle hrunning)
      rw [hleave.srst]
      exact h.inReset
  · split
    · exact streamOk_reset (ctrlReset_regs s) (ctrlReset_dmaOf s n)
    · exact h

theorem streamOk_writeHandler {s : State} {r : Reg} (hcrst : s.regs.crst = true ∨ r = .glob .gctl)
    (h : ∀ n, StreamOk s n) (val : Word) : ∀ n, StreamOk (writeHandler r val s) n := by
  intro n
  cases r with
  | glob g =>
    by_cases hg : g = .gctl
    · subst hg
      exact streamOk_wGctl (h n) val
    · exact (h n).congr ((noStream_writeHandler hg val s).sameStream n)
  | str k m =>
    by_cases hn : n = m
    · subst hn
      exact streamOk_strHandler (hcrst.resolve_right (by simp)) (h n) k val
    · exact (h n).congr ((onlyStream_writeHandler k m val s).sameStream hn)

theorem streamOk_writePiece (v : Word) (p : Piece) {s : State} (h : ∀ n, StreamOk s n) :
    ∀ n, StreamOk (writePiece v s p) n := by
  unfold writePiece
  split
  · exact h
  · next r _ =>
    split
    · exact fun n => (h n).congr ⟨rfl, SameRegs.refl n _, SameDma.refl _⟩
    · next hlet =>
      refine streamOk_writeHandler ?_ (fun n => ?_) _
      · rw [noteReserved_regs]
        simpa [or_iff_not_imp_left] using hlet
      · rw [noteReserved_eq]
        exact (h n).congr ⟨rfl, SameRegs.refl n _, SameDma.refl _⟩

end Sys2Proof.Machine
end

section
/-! The state after reset (10_state.md R58, R59, R65, 70_reset_and_hazards.md R360, R362): its values, and the
invariants of the model in it. -/

namespace Sys2Proof.Machine

theorem reset_reg (r : Reg) : State.reset.reg r = r.resetVal := resetRegs_rd r

theorem reset_dmaOf (n : Stream) : State.reset.dmaOf n = Dma.reset := get_replicate Dma.reset n

theorem mem_globalRegs (r : GReg) : r ∈ globalRegs := by cases r <;> decide

/-- Settles O9: every register is at the reset column of its table, read off row by row. -/
theorem resetValues : Obligations.ResetValues := by
  unfold Obligations.ResetValues
  simp only [reset_reg, reset_dmaOf]
  refine ⟨by decide, ?_, ?_, fun n => rfl, fun i => ?_, rfl, rfl, rfl, rfl, rfl, rfl, rfl⟩
  · have hzero : ∀ r ∈ globalRegs, r ∉ [GReg.gcap, .vmaj, .outpay, .inpay, .corbsize, .rirbsize] →
        (Reg.glob r).resetVal = 0 := by decide
    exact fun r => hzero r (mem_globalRegs r)
  · decide
  · exact ⟨Vector.getElem_replicate i.isLt, Vector.getElem_replicate i.isLt⟩

/-- No stream asks for an interrupt and no ring does: the line is low. -/
theorem reset_line : State.reset.regs.line = false := by decide +kernel

/-- Settles O60: the reset values satisfy each invariant, and nothing was saved. -/
theorem resetInvariants : Obligations.ResetInvariants := by
  obtain ⟨hrings, hregisters⟩ := (ringsOk_and_registersOk_iff State.reset).mpr
    ⟨⟨fits_resetRegs, Nat.zero_le _⟩, fun r hr => by cases hr⟩
  refine ⟨rfl, ⟨reset_line.symm, fun r hr => by cases hr⟩, rfl, hrings, hregisters,
    ⟨fun n => ?_, fun r hr => by cases hr⟩, fun _ => ⟨reset_reg, rfl, fun n => ?_⟩, fun r hr => by cases hr⟩
  · exact streamOk_reset rfl (reset_dmaOf n)
  · rw [reset_dmaOf]
    rfl

end Sys2Proof.Machine
end

section
/-! The engines and the host's operations (44_stream_dma.md R271 to R281, 45_host_ops.md R303, R308, R309): a SINK, a
TICK and a RESTORE leave every stream in order, and a TICK of a stream in order never faults. -/

namespace Sys2Proof.Machine

/-! ### SINK (R303) -/

theorem length_takeCapture (m : Nat) : ∀ o : Oracle, (o.takeCapture m).1.length = m := by
  induction m with
  | zero => exact fun _ => rfl
  | succ m ih => exact fun o => congrArg (· + 1) (ih _)

/-- An armed engine whose ring alone changed. -/
theorem StreamOk.withRing {s t : State} {n : Stream} (h : StreamOk s n) (hcfg : t.cfg = s.cfg) (hregs : t.regs = s.regs)
    (hsame : SameEngine (s.dmaOf n) (t.dmaOf n)) (hrun : (s.dmaOf n).running = true)
    (hlen : (t.dmaOf n).ring.length ≤ s.cfg.ringBytes.get n) : StreamOk t n := by
  refine ⟨hregs ▸ h.registers, ?_, fun _ => ?_, fun hstop => ?_, hcfg ▸ hlen⟩
  · rw [hsame.inReset, hregs]
    exact h.inReset
  · rw [hcfg, hregs]
    exact (h.armed hrun).congr (SameRegs.refl n _) hsame
  · rw [hsame.running, hrun] at hstop
    cases hstop

theorem sinkCapture_dmaOf (n : Stream) (m : Nat) (s : State) :
    (sinkCapture n m s).dmaOf n = { s.dmaOf n with ring := (s.dmaOf n).ring ++ (s.oracle.takeCapture m).1 } :=
  (State.dmaOf_setDma _ n n _).trans (if_pos rfl)

theorem sinkRender_dmaOf (n : Stream) (m : Nat) (s : State) :
    (sinkRender n m s).dmaOf n = { s.dmaOf n with ring := (s.dmaOf n).ring.drop m } :=
  (State.dmaOf_setDma _ n n _).trans (if_pos rfl)

theorem returnMoved_dmaOf (m : Nat) (s : State) (n : Stream) : (returnMoved m s).dmaOf n = s.dmaOf n := rfl

/-- A sink moves no more than the ring's room or contents (R303). -/
theorem streamOk_sinkStep_self {s : State} {n : Stream} (h : StreamOk s n) (k : Nat) : StreamOk (sinkStep n k s) n := by
  have hbound := h.bounded
  unfold sinkStep
  dsimp only
  split
  · next harmed =>
    have hrun : (s.dmaOf n).running = true := (Bool.and_eq_true_iff.mp harmed).1
    split
    · refine h.withRing rfl rfl ?_ hrun ?_
      · rw [returnMoved_dmaOf, sinkCapture_dmaOf]
        exact ⟨rfl, rfl, rfl, rfl, rfl, rfl, rfl⟩
      · rw [returnMoved_dmaOf, sinkCapture_dmaOf]
        dsimp only
        rw [List.length_append, length_takeCapture]
        omega
    · refine h.withRing rfl rfl ?_ hrun ?_
      · rw [returnMoved_dmaOf, sinkRender_dmaOf]
        exact ⟨rfl, rfl, rfl, rfl, rfl, rfl, rfl⟩
      · rw [returnMoved_dmaOf, sinkRender_dmaOf]
        dsimp only
        rw [List.length_drop]
        omega
  · exact h.congr ⟨rfl, SameRegs.refl n _, SameDma.refl _⟩

theorem streamOk_sinkStep {s : State} (h : ∀ n, StreamOk s n) (m : Stream) (k : Nat) :
    ∀ n, StreamOk (sinkStep m k s) n := by
  intro n
  by_cases hn : n = m
  · subst hn
    exact streamOk_sinkStep_self (h n) k
  · have honly := sinkStep_only m k s
    exact (h n).congr ⟨honly.cfg, honly.regs ▸ SameRegs.refl n _, honly.dma n hn ▸ SameDma.refl _⟩

/-! ### TICK (R271 to R281) -/

theorem commitTransfer_dmaOf (n : Stream) (b e o : Nat) (mem : Memory) (buf : List Byte) (s : State) :
    (commitTransfer n b e o mem buf s).dmaOf n =
      { s.dmaOf n with curEntry := e, curOff := o, ring := committedRing (s.dmaOf n) n b buf } := by
  unfold commitTransfer
  dsimp only
  split <;> exact (State.dmaOf_setDma _ n n _).trans (if_pos rfl)

/-- The engine after an execution of step `st` in a list of `cnt` entries, the queue of interrupts and the timer aside:
the last execution passes the step's entries and the schedule goes on, else the next execution is due (R272, R279). -/
def Dma.advanced (d : Dma) (st : Step) (cnt : Nat) : Dma :=
  if d.schedLoop + 1 = st.loops then
    { d with
      curEntry := (st.first + st.count) % cnt, curOff := 0, schedLoop := 0, schedIdx := (d.schedIdx + 1) % d.sched.length }
  else { d with schedLoop := d.schedLoop + 1 }

theorem finishStep_dmaOf (n : Stream) (st : Step) (ioc : Bool) (s : State) :
    SameDma
      { s.dmaOf n with
        curEntry := (st.first + st.count) % s.regs.entryCount n, curOff := 0, schedLoop := 0,
        schedIdx := ((s.dmaOf n).schedIdx + 1) % (s.dmaOf n).sched.length }
      ((finishStep n st ioc s).dmaOf n) := by
  have hself (d : Dma) : (s.setDma n d).dmaOf n = d := (State.dmaOf_setDma s n n d).trans (if_pos rfl)
  unfold finishStep
  dsimp only
  split
  · rw [State.dmaOf_orReg, hself]
    exact ⟨⟨rfl, rfl, rfl, rfl, rfl, rfl, rfl⟩, rfl⟩
  · rw [hself]
    exact ⟨⟨rfl, rfl, rfl, rfl, rfl, rfl, rfl⟩, rfl⟩

theorem advanceSchedule_dmaOf (n : Stream) (st : Step) (ioc : Bool) (s : State) :
    SameDma ((s.dmaOf n).advanced st (s.regs.entryCount n)) ((advanceSchedule n st ioc s).dmaOf n) := by
  unfold advanceSchedule Dma.advanced
  dsimp only
  split
  · exact finishStep_dmaOf n st ioc s
  · rw [State.dmaOf_setDma, if_pos rfl]
    exact SameDma.refl _

theorem rearmTimer_dmaOf (n : Stream) (s : State) : SameDma (s.dmaOf n) ((rearmTimer n s).dmaOf n) := by
  unfold rearmTimer
  rw [State.dmaOf_setDma, if_pos rfl]
  exact ⟨⟨rfl, rfl, rfl, rfl, rfl, rfl, rfl⟩, rfl⟩

theorem SameDma.trans {d d' d'' : Dma} (h : SameDma d d') (k : SameDma d' d'') : SameDma d d'' :=
  ⟨⟨k.running.trans h.running, k.inReset.trans h.inReset, k.curEntry.trans h.curEntry, k.bdl.trans h.bdl,
    k.sched.trans h.sched, k.schedIdx.trans h.schedIdx, k.schedLoop.trans h.schedLoop⟩, k.ring.trans h.ring⟩

/-- The engine of a stream whose transfer of `buf` ended at `(e, o)` (R274). -/
def State.transferred (s : State) (n : Stream) (b e o : Nat) (buf : List Byte) : Dma :=
  { s.dmaOf n with curEntry := e, curOff := o, ring := committedRing (s.dmaOf n) n b buf }

/-- After a TICK that moved its bytes (R272). -/
theorem tickDone_dmaOf (n : Stream) (st : Step) (ioc : Bool) (e o : Nat) (mem : Memory) (buf : List Byte) (s : State) :
    SameDma ((s.transferred n st.bytes e o buf).advanced st (s.regs.entryCount n))
      ((tickDone n st ioc e o mem buf s).dmaOf n) := by
  have hmoved : (advanceLpib n st.bytes (commitTransfer n st.bytes e o mem buf s)).dmaOf n =
      s.transferred n st.bytes e o buf := commitTransfer_dmaOf n st.bytes e o mem buf s
  have hcount : (advanceLpib n st.bytes (commitTransfer n st.bytes e o mem buf s)).regs.entryCount n =
      s.regs.entryCount n := by
    unfold RegFile.entryCount advanceLpib
    rw [State.setReg_regs, RegFile.rd_put_of_ne _ (by simp), commitTransfer_regs]
  rw [← hmoved, ← hcount]
  unfold tickDone
  rw [irqEval_dmaOf]
  exact (advanceSchedule_dmaOf n st ioc _).trans (rearmTimer_dmaOf n _)

/-- The schedule goes on to a step that has an execution left (R279). -/
theorem Dma.advanced_step {d : Dma} {st : Step} (cnt : Nat) (hst : d.sched[d.schedIdx]? = some st)
    (hloop : d.schedLoop < st.loops) (hpos : ∀ st ∈ d.sched, 1 ≤ st.loops) :
    ∃ st', (d.advanced st cnt).sched[(d.advanced st cnt).schedIdx]? = some st' ∧
      (d.advanced st cnt).schedLoop < st'.loops := by
  unfold Dma.advanced
  split
  · have hlt := (List.getElem?_eq_some_iff.mp hst).1
    have hnext := List.getElem?_eq_getElem (Nat.mod_lt (d.schedIdx + 1) (Nat.zero_lt_of_lt hlt))
    exact ⟨_, hnext, hpos _ (List.mem_of_getElem? hnext)⟩
  · exact ⟨st, hst, by dsimp only; omega⟩

theorem Dma.advanced_entry {d : Dma} (st : Step) {cnt : Nat} (h : d.curEntry < cnt) :
    (d.advanced st cnt).curEntry < cnt := by
  unfold Dma.advanced
  split
  · exact Nat.mod_lt _ (Nat.zero_lt_of_lt h)
  · exact h

/-- The rest of the record stays. -/
theorem Dma.advanced_rest (d : Dma) (st : Step) (cnt : Nat) :
    (d.advanced st cnt).running = d.running ∧ (d.advanced st cnt).inReset = d.inReset ∧
    (d.advanced st cnt).bdl = d.bdl ∧ (d.advanced st cnt).sched = d.sched ∧ (d.advanced st cnt).ring = d.ring := by
  unfold Dma.advanced
  split <;> exact ⟨rfl, rfl, rfl, rfl, rfl⟩

/-- A TICK of a stream in order never faults: its step is in the schedule, the step's last entry in the list, and the
list supplies the step's bytes (R274, R287). -/
theorem tick_not_fault {s : State} {n : Stream} (h : StreamOk s n) (f : Fault) : tick n s ≠ .fault f := by
  unfold tick
  split
  · next henabled =>
    have hrun : (s.dmaOf n).running = true := (Bool.and_eq_true_iff.mp henabled).1
    have harmed := h.armed hrun
    obtain ⟨fmt, _, hsched⟩ := harmed.schedule
    obtain ⟨st, hst, _⟩ := harmed.step
    have hinside : StepInside (s.dmaOf n).bdl st := buildSchedule_inside (hsched ▸ List.mem_of_getElem? hst)
    have hlast := hinside.inside
    have hcount := hinside.count
    rw [hst]
    dsimp only
    rw [List.getElem?_eq_getElem (by omega)]
    dsimp only
    rw [if_neg harmed.nonempty]
    unfold tickRun
    split
    · exact nofun
    · have hsupplied : transfer s n st.bytes ≠ .exhausted := by
        unfold transfer
        rw [← harmed.entries]
        exact xferLoop_not_exhausted (harmed.entries ▸ harmed.entry) hinside.bytes _ _ _ _ _
      split
      · exact nofun
      · exact nofun
      · next hx => exact absurd hx hsupplied
  · exact nofun

/-- A completed transfer ends inside the list, with the step's bytes read if the stream plays (R274). -/
theorem transfer_done {s : State} {n : Stream} {b e o : Nat} {mem : Memory} {buf : List Byte}
    (hentry : (s.dmaOf n).curEntry < s.regs.entryCount n) (h : transfer s n b = .done e o mem buf) :
    e < s.regs.entryCount n ∧ (isInput n = false → buf.length = b) := by
  obtain ⟨hlt, hlen⟩ := xferLoop_done (Nat.zero_lt_of_lt hentry) _ _ _ _ _ _ _ hentry h
  exact ⟨hlt, fun hi => (hlen hi).trans (Nat.zero_add b)⟩

/-- A step that is not skipped fits the ring (R60, R273). -/
theorem length_committedRing {s : State} {n : Stream} {st : Step} {buf : List Byte}
    (hbound : (s.dmaOf n).ring.length ≤ s.cfg.ringBytes.get n) (hskip : skipTick s n st = false)
    (hbuf : isInput n = false → buf.length = st.bytes) :
    (committedRing (s.dmaOf n) n st.bytes buf).length ≤ s.cfg.ringBytes.get n := by
  unfold committedRing
  split
  · next hok =>
    split
    · rw [List.length_drop]
      omega
    · next hi =>
      have hout : isInput n = false := Bool.eq_false_iff.mpr hi
      have hroom : st.bytes ≤ s.cfg.ringBytes.get n - (s.dmaOf n).ring.length := by
        unfold skipTick at hskip
        simp only [hok, hout, Bool.or_eq_false_iff] at hskip
        simpa using hskip.1
      rw [List.length_append, hbuf hout]
      omega
  · exact hbound

theorem nextLpib_lt {s : State} {n : Stream} (st : Step) (hcbl : s.regs.cbl n ≠ 0) :
    (nextLpib s n st).toNat < s.regs.cbl n :=
  Nat.lt_of_le_of_lt ((BitVec.toNat_ofNat ..).le.trans (Nat.mod_le _ _)) (Nat.mod_lt _ (Nat.pos_of_ne_zero hcbl))

/-- What a TICK that moved its bytes leaves of its stream's registers: LPIB goes on (R277). -/
theorem sameRegs_tickDone (n : Stream) (st : Step) (ioc : Bool) (e o : Nat) (mem : Memory) (buf : List Byte) (s : State) :
    SameRegs n (s.regs.put (.str .lpib n) (nextLpib s n st)) (tickDone n st ioc e o mem buf s).regs := by
  rcases tickDone_regs n st ioc e o mem buf s with heq | heq
  · exact heq ▸ SameRegs.refl n _
  · exact heq ▸ sameRegs_putSts n _ _

/-- An engine that moved a step's bytes and went on, with LPIB following, is in order (R61 b, c, g, h). -/
theorem Dma.Armed.advanced {s : State} {n : Stream} (h : (s.dmaOf n).Armed s.cfg s.regs n) {st : Step}
    (hst : (s.dmaOf n).sched[(s.dmaOf n).schedIdx]? = some st) {b e : Nat} (he : e < s.regs.entryCount n) (o : Nat)
    (buf : List Byte) :
    ((s.transferred n b e o buf).advanced st (s.regs.entryCount n)).Armed s.cfg
      (s.regs.put (.str .lpib n) (nextLpib s n st)) n := by
  obtain ⟨_, _, hbdl, hsched, _⟩ := (s.transferred n b e o buf).advanced_rest st (s.regs.entryCount n)
  obtain ⟨fmt, hfmt, hbuilt⟩ := h.schedule
  obtain ⟨st', hst', hloop⟩ := h.step
  obtain rfl : st' = st := Option.some.inj (hst'.symm.trans hst)
  have hrd (k : SReg) (hk : k ≠ .lpib) :
      (s.regs.put (.str .lpib n) (nextLpib s n st')).rd (.str k n) = s.regs.rd (.str k n) :=
    RegFile.rd_put_of_ne _ (by simpa using hk) _
  have hcbl : (s.regs.put (.str .lpib n) (nextLpib s n st')).cbl n = s.regs.cbl n := by
    unfold RegFile.cbl
    rw [hrd .cbl (by decide)]
  have hcount : (s.regs.put (.str .lpib n) (nextLpib s n st')).entryCount n = s.regs.entryCount n := by
    unfold RegFile.entryCount
    rw [hrd .lvi (by decide)]
  refine ⟨?_, ?_, ?_, ?_, ?_, ?_, ⟨fmt, ?_, ?_⟩, ?_, ?_, ?_⟩
  · exact (crst_setReg s _ (by simp)).trans h.crst
  · unfold RegFile.run
    rw [hrd .ctl (by decide)]
    exact h.run
  · unfold RegFile.srst
    rw [hrd .ctl (by decide)]
    exact h.srst
  · rw [hbdl, hcount]
    exact h.entries
  · rw [hbdl, hcbl]
    exact h.total
  · rw [hcbl]
    exact h.nonempty
  · rw [hrd .fmt (by decide)]
    exact hfmt
  · rw [hsched, hbdl]
    exact hbuilt
  · exact Dma.advanced_step _ hst hloop fun _ hmem => (buildSchedule_inside (hbuilt ▸ hmem)).loops
  · rw [hcount]
    exact Dma.advanced_entry st' he
  · rw [hcbl, RegFile.rd_put_same]
    exact Nat.lt_of_le_of_lt ((BitVec.toNat_and _ _).le.trans Nat.and_le_left) (nextLpib_lt st' h.nonempty)

theorem streamOk_tickDone {s : State} {n : Stream} (h : StreamOk s n) (hrun : (s.dmaOf n).running = true) {st : Step}
    (hst : (s.dmaOf n).sched[(s.dmaOf n).schedIdx]? = some st) (hskip : skipTick s n st = false) {e o : Nat}
    {mem : Memory} {buf : List Byte} (hx : transfer s n st.bytes = .done e o mem buf) {ioc : Bool}
    (hcfg : (tickDone n st ioc e o mem buf s).cfg = s.cfg) : StreamOk (tickDone n st ioc e o mem buf s) n := by
  obtain ⟨he, hbuf⟩ := transfer_done (h.armed hrun).entry hx
  have hregs := sameRegs_tickDone n st ioc e o mem buf s
  have hdma := tickDone_dmaOf n st ioc e o mem buf s
  obtain ⟨hrunning, hreset, _, _, hring⟩ := (s.transferred n st.bytes e o buf).advanced_rest st (s.regs.entryCount n)
  have harmed : ((tickDone n st ioc e o mem buf s).dmaOf n).Armed s.cfg (tickDone n st ioc e o mem buf s).regs n :=
    ((h.armed hrun).advanced hst he o buf).congr hregs hdma.toSameEngine
  refine ⟨⟨fun hsrst => ?_, fun _ => .inr harmed.lpib⟩, ?_, fun _ => hcfg ▸ harmed, fun hstop => ?_, ?_⟩
  · rw [harmed.srst] at hsrst
    cases hsrst
  · rw [harmed.srst, hdma.inReset, hreset]
    exact h.inReset.trans (h.armed hrun).srst
  · rw [hdma.running, hrunning] at hstop
    exact absurd (hrun.symm.trans hstop) (by decide)
  · rw [hdma.ring, hring, hcfg]
    exact length_committedRing h.bounded hskip hbuf

/-- A skipped or an aborted TICK moves the timer alone (R273, R276). -/
theorem retryLater_dmaOf (n : Stream) (st : Step) (s : State) : SameDma (s.dmaOf n) ((retryLater n st s).dmaOf n) := by
  unfold retryLater
  rw [State.dmaOf_setDma, if_pos rfl]
  exact ⟨⟨rfl, rfl, rfl, rfl, rfl, rfl, rfl⟩, rfl⟩

theorem streamOk_tick_self {s t : State} {n : Stream} (h : StreamOk s n) (ht : tick n s = .next t) : StreamOk t n := by
  have hcfg := (tick_only ht).1.cfg
  obtain ⟨henabled, st, last, hst, _, _, ⟨_, rfl⟩ | ⟨hskip, e, o, mem, buf, hx, rfl⟩ | ⟨_, mem, _, rfl⟩⟩ := tick_next ht
  · refine h.congr ⟨hcfg, ?_, ?_⟩
    · rw [tickSkipped_regs]
      exact SameRegs.refl n _
    · unfold tickSkipped
      rw [irqEval_dmaOf]
      exact retryLater_dmaOf n st (s.countSkipped n)
  · exact streamOk_tickDone h (Bool.and_eq_true_iff.mp henabled).1 hst hskip hx hcfg
  · refine h.congr ⟨hcfg, ?_, ?_⟩
    · rw [tickAborted_regs]
      exact sameRegs_putSts n _ _
    · unfold tickAborted
      rw [irqEval_dmaOf]
      exact retryLater_dmaOf n st _

/-- A TICK of another stream is not seen. -/
theorem TickOnly.sameStream {m n : Stream} {s t : State} (h : TickOnly m s t) (hn : n ≠ m) : SameStream n s t := by
  have hregs (k : SReg) : t.regs.rd (.str k n) = s.regs.rd (.str k n) :=
    h.regs _ (by simp [hn]) (by simp [hn])
  refine ⟨h.cfg, ⟨SameStr.of_rd fun k _ => hregs k, ?_⟩, h.dma n hn ▸ SameDma.refl _⟩
  unfold RegFile.crst
  rw [h.regs _ (by simp) (by simp)]

theorem streamOk_tick {s t : State} {m : Stream} (h : ∀ n, StreamOk s n) (ht : tick m s = .next t) :
    ∀ n, StreamOk t n := by
  intro n
  by_cases hn : n = m
  · subst hn
    exact streamOk_tick_self (h n) ht
  · exact (h n).congr ((tick_only ht).1.sameStream hn)

/-! ### The rings and the bus (R131, R135, R204) -/

/-- The rings are no part of a stream. -/
theorem noStream_drain (s : State) : NoStream s (drain s) := by
  have hrd {r : Reg} (hrp : r ≠ .glob .corbrp) (hwp : r ≠ .glob .rirbwp) (hsts : r ≠ .glob .rirbsts) :=
    drain_rd hrp hwp hsts s
  have honly := ringOnly_drainBody { s with corbKick := false }
  have hrest : (drain s).cfg = s.cfg ∧ (drain s).dma = s.dma := by
    rw [drain_eq]
    split
    · exact ⟨rfl, rfl⟩
    · rw [irqEval_cfg, irqEval_dma]
      exact ⟨honly.cfg, honly.dma⟩
  refine ⟨hrest.1, hrest.2, ?_, fun k n => hrd (by simp) (by simp) (by simp)⟩
  unfold RegFile.crst
  rw [hrd (by simp) (by simp) (by simp)]

theorem noStream_endWrite (s : State) : NoStream s (endWrite s) := by
  have heval : NoStream s (irqEval s) := noStream_of_eq (irqEval_cfg s) (irqEval_dma s) (irqEval_regs s)
  unfold endWrite inlineDrain
  split
  · exact heval.trans (noStream_drain _)
  · exact heval

/-- A read changes WALCLK alone of the registers (R78). -/
theorem noStream_hostRead (off : Nat) (w : Width) (s : State) : NoStream s (hostRead off w s) := by
  have hrd {r : Reg} (hr : r ≠ .glob .walclk) : (hostRead off w s).regs.rd r = s.regs.rd r := hostRead_rd hr
  refine ⟨?_, ?_, ?_, fun k n => hrd (by simp)⟩
  · rw [hostRead_regs]
  · rw [hostRead_regs]
  · unfold RegFile.crst
    rw [hrd (by simp)]

theorem NoStream.streamOk {s t : State} (h : NoStream s t) (hs : ∀ n, StreamOk s n) : ∀ n, StreamOk t n :=
  fun n => (hs n).congr (h.sameStream n)

theorem streamOk_hostWrite {s : State} (h : ∀ n, StreamOk s n) (off : Nat) (w : Width) (v : Word) :
    ∀ n, StreamOk (hostWrite off w v s) n := by
  have hpieces := writePieces_keeps (P := fun s => ∀ n, StreamOk s n) (fun v _ p h => streamOk_writePiece v p h) v
    (pieces off w) s h
  have hnoted : NoStream (writePieces v (pieces off w) s)
      (noteUnmapped (pieces off w) (writePieces v (pieces off w) s)) := by
    rw [noteUnmapped_eq]
    exact noStream_of_eq rfl rfl rfl
  exact (hnoted.trans (noStream_endWrite _)).streamOk hpieces

/-! ### POWEROFF (R312) -/

theorem streamOk_poweroff {s : State} (h : ∀ n, StreamOk s n) : ∀ n, StreamOk (poweroff s) n := by
  intro n
  have hdma : (poweroff s).dmaOf n = (s.dmaOf n).disabled := disableAll_dmaOf s n
  have hregs : (poweroff s).regs = s.regs := disableAll_regs s
  refine streamOk_idle ?_ ?_ ?_ ?_
  · rw [hregs]
    exact (h n).registers
  · rw [hdma, hregs, Dma.disabled_inReset]
    exact (h n).inReset
  · rw [hdma]
    exact Dma.disabled_running _
  · rw [hdma]
    exact Dma.disabled_ring (h n).idle

/-! ### RESTORE (R309) -/

/-- What a RESTORE relies on in a saved record (R61 f, h). -/
def Snapshot.StreamLegal (r : Snapshot) (n : Stream) : Prop :=
  r.regs.StreamLegal n ∧ (r.perStream.get n).inReset = r.regs.srst n

theorem waiting_bindTag {s : State} {n : Stream} (h : Waiting s n) : Waiting (bindTag n s) n := by
  have hdma : (bindTag n s).dmaOf n = { s.dmaOf n with boundTag := s.regs.tag n } :=
    (State.dmaOf_setDma s n n _).trans (if_pos rfl)
  refine h.congr (SameRegs.refl n _) ?_ ?_ ?_
  · rw [hdma]
  · rw [hdma]
  · rw [hdma]

/-- The step that contains entry `e`, and an execution of it that is due. -/
theorem loopInStep_lt (bdl : List Bdle) {st : Step} (hpos : 1 ≤ st.loops) (e o : Nat) :
    loopInStep bdl st e o < st.loops := by
  unfold loopInStep
  split
  · exact hpos
  · omega

theorem length_restoredRing (s : State) (r : Snapshot) (n : Stream) (ok : Bool) :
    (restoredRing s r n ok).length ≤ s.cfg.ringBytes.get n := by
  unfold restoredRing
  split
  · split
    · next hfits => exact of_decide_eq_true (Bool.and_eq_true_iff.mp hfits).1
    · exact Nat.zero_le _
  · exact Nat.zero_le _

/-- A re-armed engine runs at the saved position, in the step that contains it (R309). -/
theorem armedFrom_resumeStream (r : Snapshot) {s : State} {n : Stream} (f : Fmt)
    (hentries : (s.dmaOf n).bdl.length = s.regs.entryCount n) (hentry : (s.dmaOf n).curEntry < s.regs.entryCount n) :
    ArmedFrom s n f ((resumeStream r n f s).dmaOf n) := by
  obtain ⟨st, hst⟩ := stepContaining_some (cfg := s.cfg) (f := f) (hentries.symm ▸ hentry)
  have hloops := (buildSchedule_inside (List.mem_of_getElem? hst)).loops
  unfold resumeStream
  dsimp only
  rw [State.dmaOf_setDma, if_pos rfl]
  refine ⟨rfl, rfl, rfl, rfl, ⟨st, hst, ?_⟩, hentry, ?_⟩
  · dsimp only
    rw [hst]
    exact loopInStep_lt _ hloops _ _
  · have h := length_restoredRing (noteBackend n (askSink n f s).1 (askSink n f s).2) r n (askSink n f s).1
    rwa [noteBackend_cfg, askSink_cfg] at h

theorem streamOk_rearm {s : State} {n : Stream} (h : Waiting s n) (r : Snapshot) : StreamOk (rearm r n s) n := by
  have hrefused {u : State} (hu : Waiting u n) : StreamOk (u.countStartRefused n) n :=
    (hu.congr (t := u.countStartRefused n) (SameRegs.refl n _) rfl rfl rfl).streamOk
  have hbound := waiting_bindTag h
  rw [rearm_eq]
  split
  · exact hrefused hbound
  · next bytes _ =>
    have hloaded := hbound.loadBdl bytes
    split
    · exact hrefused hloaded
    · next f hformat =>
      split
      · next hposition =>
        have hentry := of_decide_eq_true (Bool.and_eq_true_iff.mp hposition).1
        have hentries := entries_loadBdl n bytes (bindTag n s)
        exact hloaded.armed hformat hentries (resumeStream_regs r n f _) (onlyStream_rearmTail r n f _).quiet.cfg
          (armedFrom_resumeStream r f hentries hentry)
      · exact hrefused hloaded

theorem streamOk_restoreStream {r : Snapshot} {s : State} {n : Stream} (hr : r.StreamLegal n) (hregs : s.regs = r.regs) :
    StreamOk (restoreStream r s n) n := by
  obtain ⟨hlegal, hreset⟩ := hr
  rw [← hregs] at hlegal hreset
  have hdma : (restorePosition r n s).dmaOf n =
      { Dma.reset with
        inReset := (r.perStream.get n).inReset, curEntry := (r.perStream.get n).curEntry,
        curOff := (r.perStream.get n).curOff, tsNext := (r.perStream.get n).tsNext,
        pendingIrq := if s.regs.bcis n && s.regs.ioce n then 1 else 0 } :=
    (State.dmaOf_setDma s n n _).trans (if_pos rfl)
  have hinReset : ((restorePosition r n s).dmaOf n).inReset = s.regs.srst n := by rw [hdma, hreset]
  have hrunning : ((restorePosition r n s).dmaOf n).running = false := by rw [hdma]; rfl
  have hring : ((restorePosition r n s).dmaOf n).ring = [] := by rw [hdma]; rfl
  unfold restoreStream
  dsimp only
  split
  · next hruns =>
    obtain ⟨hboth, hrun⟩ := Bool.and_eq_true_iff.mp hruns
    obtain ⟨hcrst, hnot⟩ := Bool.and_eq_true_iff.mp hboth
    have hsrst : s.regs.srst n = false := Bool.not_eq_true' _ |>.mp hnot
    exact streamOk_rearm ⟨hcrst, hrun, hsrst, hlegal, hinReset.trans hsrst, hrunning, hring⟩ r
  · exact streamOk_idle hlegal hinReset hrunning hring

/-- A RESTORE of a record whose registers are in order leaves every stream in order (R309). -/
theorem streamOk_restore {r : Snapshot} (hr : ∀ n, r.StreamLegal n) (s : State) : ∀ n, StreamOk (restore r s) n := by
  intro n
  obtain ⟨u, hregs, hquiet, hdma⟩ := restored_dmaOf r s n
  have hstream := streamOk_restoreStream (hr n) hregs
  rw [restore_eq]
  refine hstream.congr ⟨?_, ?_, ?_⟩
  · rw [State.driveWire_cfg, (quiet_restored r s).cfg, (onlyStream_restoreStream r u n).quiet.cfg, hquiet.cfg]
  · rw [State.driveWire_regs, restored_regs, restoreStream_regs, hregs]
    exact SameRegs.refl n _
  · rw [State.dmaOf_congr (State.driveWire_dma _ _) n, hdma]
    exact SameDma.refl _

/-- What SAVE records is in order (R308). -/
theorem streamLegal_snapshotOf {s : State} {n : Stream} (h : StreamOk s n) : (snapshotOf s).StreamLegal n := by
  refine ⟨h.registers, ?_⟩
  rw [snapshotOf_perStream]
  exact h.inReset

/-! ### Every operation -/

theorem streamOk_exec {i : Instr} {s t : State} (hs : ∀ n, StreamOk s n)
    (hsaved : ∀ r, s.saved = some r → ∀ n, r.StreamLegal n) (h : exec i s = .next t) : ∀ n, StreamOk t n := by
  obtain ⟨off, w, ht⟩ | ⟨off, w, v, ht⟩ | ⟨_, ht⟩ | ⟨n, htick⟩ | ⟨n, k, ht⟩ | ⟨d, _, ht⟩ | ht |
    ⟨r, hr, ht⟩ | ht | ht := exec_next h
  · exact ht ▸ (noStream_hostRead off w s).streamOk hs
  · exact ht ▸ streamOk_hostWrite hs off w v
  · exact ht ▸ (noStream_drain s).streamOk hs
  · exact streamOk_tick hs htick
  · exact ht ▸ streamOk_sinkStep hs n k
  · exact (noStream_of_eq (by rw [ht]) (by rw [ht]) (by rw [ht])).streamOk hs
  · exact (noStream_of_eq (by rw [ht]; rfl) (by rw [ht]; rfl) (by rw [ht]; rfl)).streamOk hs
  · exact ht ▸ streamOk_restore (hsaved r hr) s
  · exact ht ▸ streamOk_poweroff hs
  · exact ht ▸ fun n => streamOk_reset (poreset_regs s) (poreset_dmaOf s n)

/-- Only a TICK can fault (R287). -/
theorem exec_not_fault {i : Instr} {s : State} (hs : ∀ n, StreamOk s n) (f : Fault) : exec i s ≠ .fault f := by
  rw [exec_eq_runForm]
  cases i.form with
  | rd | wr | rdUnmapped | wrUnmapped | save | poweroff | poreset => exact nofun
  | tick n =>
    unfold runForm execTick
    dsimp only
    split
    · exact tick_not_fault (hs _) f
    · exact nofun
  | drain =>
    unfold runForm execDrain
    dsimp only
    split <;> exact nofun
  | sink n k =>
    unfold runForm execSink
    dsimp only
    split <;> exact nofun
  | time d =>
    unfold runForm execTime timeStep
    dsimp only
    split <;> exact nofun
  | restore =>
    unfold runForm execRestore
    dsimp only
    split <;> exact nofun

/-- A step that faults is an operation of the sequence that faults. -/
theorem step_fault {s : State} {f : Fault} (h : step s = .fault f) :
    ∃ i rest, exec i { s with pending := rest } = .fault f := by
  unfold step State.takeWord at h
  cases hp : s.pending with
  | nil =>
    rw [hp] at h
    cases h
  | cons x rest =>
    rw [hp] at h
    dsimp only at h
    cases hd : decode x with
    | error e =>
      rw [hd] at h
      cases h
    | ok i =>
      rw [hd] at h
      exact ⟨i, rest, h⟩

/-- Settles O58: every operation leaves every stream and the saved record in order, and the only step that could fault,
a TICK, finds its step in the schedule and the step's bytes in the list. -/
theorem streamsInvariant : Obligations.StreamsInvariant := by
  rintro s ⟨hstreams, hsaved⟩
  have hs (rest : List Quad) : ∀ n, StreamOk { s with pending := rest } n :=
    (noStream_of_eq (s := s) (t := { s with pending := rest }) rfl rfl rfl).streamOk hstreams
  refine ⟨fun t h => ?_, fun f h => ?_⟩
  · obtain ⟨_, rest, _, _, _, hexec⟩ := step_next h
    exact ⟨streamOk_exec (hs rest) hsaved hexec,
      saved_keeps (P := fun r => ∀ n, r.StreamLegal n) hexec (fun n => streamLegal_snapshotOf (hs rest n)) hsaved⟩
  · obtain ⟨_, rest, hexec⟩ := step_fault h
    exact exec_not_fault (hs rest) f hexec

end Sys2Proof.Machine
end

section
/-! The registers restricted while running (10_state.md R61 e, 43_stream_registers.md R236): no piece of a write changes
them and leaves their stream running, and a write that starts the stream has not touched them before. -/

namespace Sys2Proof.Machine

/-! ### The guarded registers -/

/-- The registers of a stream that are restricted while it runs (R236). -/
def guardedKinds : List SReg := [.cbl, .lvi, .fifow, .fmt, .bdpl, .bdpu]

/-- The guarded registers of stream `n` are the same in both register files. -/
def KeepsGuarded (n : Stream) (f g : RegFile) : Prop := ∀ k ∈ guardedKinds, g.rd (.str k n) = f.rd (.str k n)

theorem KeepsGuarded.refl (n : Stream) (f : RegFile) : KeepsGuarded n f f := fun _ _ => rfl

theorem KeepsGuarded.trans {n : Stream} {f g h : RegFile} (hfg : KeepsGuarded n f g) (hgh : KeepsGuarded n g h) :
    KeepsGuarded n f h := fun k hk => (hgh k hk).trans (hfg k hk)

theorem SameStr.keepsGuarded {n : Stream} {f g : RegFile} (h : SameStr n f g) : KeepsGuarded n f g := by
  have hother : ∀ k ∈ guardedKinds, k ≠ .ctl ∧ k ≠ .sts := by decide
  exact fun k hk => h.rest k (hother k hk).1 (hother k hk).2

/-- A store to another register of the stream. -/
theorem keepsGuarded_put (n : Stream) (f : RegFile) {q : SReg} (hq : q ∉ guardedKinds) (v : Word) :
    KeepsGuarded n f (f.put (.str q n) v) := by
  intro k hk
  refine RegFile.rd_put_of_ne _ ?_ v
  rintro h
  cases h
  exact hq hk

/-- From `f` to `g` stream `n` was not started, and its guarded registers are the same if it still runs. -/
def KeepsRunning (n : Stream) (f g : RegFile) : Prop := g.run n = true → f.run n = true ∧ KeepsGuarded n f g

theorem SameStr.keepsRunning {n : Stream} {f g : RegFile} (h : SameStr n f g) : KeepsRunning n f g :=
  fun hrun => ⟨h.run.symm.trans hrun, h.keepsGuarded⟩

theorem KeepsRunning.trans {n : Stream} {f g h : RegFile} (hfg : KeepsRunning n f g) (hgh : KeepsRunning n g h) :
    KeepsRunning n f h := by
  intro hrun
  obtain ⟨hrun', hkeep'⟩ := hgh hrun
  obtain ⟨hrun'', hkeep''⟩ := hfg hrun'
  exact ⟨hrun'', hkeep''.trans hkeep'⟩

theorem run_resetRegs : ∀ n : Stream, resetRegs.run n = false := by decide +kernel

/-- Where the reset of the controller or of the stream was, the stream does not run. -/
theorem keepsRunning_of_not_run {n : Stream} {f g : RegFile} (h : g.run n = false) : KeepsRunning n f g := by
  intro hrun
  rw [h] at hrun
  cases hrun

/-! ### The handlers -/

theorem keepsRunning_wGctl (n : Stream) (val : Word) (s : State) : KeepsRunning n s.regs (wGctl val s).regs := by
  have hset : SameStr n s.regs (s.regs.put (.glob .gctl) (val &&& 0x00000103)) := SameStr.of_rd fun k _ => by simp
  unfold wGctl
  dsimp only
  split
  · split
    · exact hset.keepsRunning
    · refine (SameStr.of_rd fun k _ => ?_).keepsRunning
      simp [leaveReset_eq]
  · split
    · rw [ctrlReset_regs]
      exact keepsRunning_of_not_run (run_resetRegs n)
    · exact (SameStr.refl n _).keepsRunning

/-- A guarded register is written only while the stream does not run, and the write does not start it (R236). -/
theorem keepsRunning_wSdguard (n : Stream) {k : SReg} (hk : k ∈ guardedKinds) (val : Word) (s : State) :
    KeepsRunning n s.regs (wSdguard n (.str k n) val s).regs := by
  unfold wSdguard
  split
  · exact (SameStr.refl n _).keepsRunning
  · next hrun =>
    have hne : k ≠ .ctl := by
      rintro rfl
      exact absurd hk (by decide)
    refine keepsRunning_of_not_run ?_
    unfold wPlain RegFile.run
    rw [State.setReg_regs, RegFile.rd_put_of_ne _ (by simpa using hne.symm)]
    exact Bool.eq_false_iff.mpr hrun

/-- A write of SDCTL changes them only by a reset of the stream, which does not leave it running (R231 to R233). -/
theorem keepsGuarded_wSdctl {n : Stream} {val : Word} {s : State} (hrun : (wSdctl n val s).regs.run n = true) :
    KeepsGuarded n s.regs (wSdctl n val s).regs := by
  have hstore : KeepsGuarded n s.regs (storeSdctl n (val &&& 0xFF001F) s).regs := keepsGuarded_put n s.regs (by decide) _
  rcases wSdctl_cases n val s with heq | ⟨_, ⟨_, _, heq⟩ | ⟨_, _, heq⟩ | ⟨_, heq⟩⟩
  · rw [heq] at hrun
    rcases holdStreamReset_regs n s with hregs | hregs
    · rw [hregs, run_putCtl] at hrun
      exact absurd hrun (by decide)
    · rw [hregs, run_putCtl] at hrun
      exact absurd hrun (by decide)
  · rw [heq]
    have hlpib := hstore.trans (keepsGuarded_put n _ (q := .lpib) (by decide) 0)
    rcases sdStart_regs n (storeSdctl n (val &&& 0xFF001F) s) with hregs | hregs
    · exact hregs ▸ hlpib
    · exact hregs ▸ hlpib.trans (keepsGuarded_put n _ (by decide) _)
  · rw [heq, sdDisable_regs]
    exact hstore
  · exact heq ▸ hstore

/-! ### The pieces of a write -/

/-- The registers whose writes can change whether stream `n` runs or what its guarded registers hold. -/
def disturbing (n : Stream) : List Reg := .glob .gctl :: .str .ctl n :: guardedKinds.map fun k => .str k n

theorem sameStr_writeHandler {n : Stream} {r : Reg} (hr : r ∉ disturbing n) (val : Word) (s : State) :
    SameStr n s.regs (writeHandler r val s).regs := by
  cases r with
  | glob g =>
    have hg : g ≠ .gctl := by
      rintro rfl
      exact hr (List.mem_cons_self ..)
    exact ((noStream_writeHandler hg val s).sameStream n).regs.toSameStr
  | str k m =>
    by_cases hn : n = m
    · subst hn
      cases k with
      | sts =>
        have hregs : (wSdsts n val s).regs = s.regs.put (.str .sts n) (s.reg (.str .sts n) &&& ~~~(val &&& 0x1C)) := by
          rw [wSdsts_eq]
          rfl
        exact hregs ▸ (sameRegs_putSts n _ _).toSameStr
      | lpib | fifos => exact SameStr.refl n _
      | ctl | cbl | lvi | fifow | fmt | bdpl | bdpu => exact absurd (by simp [disturbing, guardedKinds]) hr
    · exact ((onlyStream_writeHandler k m val s).sameStream hn).regs.toSameStr

theorem keepsRunning_writeHandler {n : Stream} {r : Reg} (hr : r ≠ .str .ctl n) (val : Word) (s : State) :
    KeepsRunning n s.regs (writeHandler r val s).regs := by
  by_cases hd : r ∈ disturbing n
  · rcases List.mem_cons.mp hd with rfl | hd
    · exact keepsRunning_wGctl n val s
    · rcases List.mem_cons.mp hd with rfl | hd
      · exact absurd rfl hr
      · obtain ⟨k, hk, rfl⟩ := List.mem_map.mp hd
        have hguard : writeHandler (.str k n) val s = wSdguard n (.str k n) val s := by
          cases k with
          | cbl | lvi | fifow | fmt | bdpl | bdpu => rfl
          | ctl | sts | lpib | fifos => exact absurd hk (by decide)
        exact hguard ▸ keepsRunning_wSdguard n hk val s
  · exact (sameStr_writeHandler hd val s).keepsRunning

/-- A piece leaves the registers alone or is a call of its register's handler. -/
theorem writePiece_regs (v : Word) (s : State) (p : Piece) :
    (writePiece v s p).regs = s.regs ∨
    ∃ r u val, p.reg = some r ∧ u.regs = s.regs ∧ (writePiece v s p).regs = (writeHandler r val u).regs := by
  unfold writePiece
  split
  · exact .inl rfl
  · next r hr =>
    split
    · exact .inl rfl
    · exact .inr ⟨r, _, _, hr, noteReserved_regs .., rfl⟩

theorem sameStr_writePiece {n : Stream} {p : Piece} (hp : ∀ r ∈ disturbing n, p.reg ≠ some r) (v : Word) (s : State) :
    SameStr n s.regs (writePiece v s p).regs := by
  rcases writePiece_regs v s p with heq | ⟨r, u, val, hr, hu, heq⟩
  · exact heq ▸ SameStr.refl n _
  · rw [heq, ← hu]
    exact sameStr_writeHandler (fun hd => hp r hd hr) val u

theorem keepsRunning_writePiece {n : Stream} {p : Piece} (hp : p.reg ≠ some (.str .ctl n)) (v : Word) (s : State) :
    KeepsRunning n s.regs (writePiece v s p).regs := by
  rcases writePiece_regs v s p with heq | ⟨r, u, val, hr, hu, heq⟩
  · exact heq ▸ (SameStr.refl n _).keepsRunning
  · rw [heq, ← hu]
    refine keepsRunning_writeHandler ?_ val u
    rintro rfl
    exact hp hr

/-- No piece changes a guarded register and leaves the stream running. -/
theorem keepsGuarded_writePiece {n : Stream} {v : Word} {s : State} {p : Piece}
    (hrun : (writePiece v s p).regs.run n = true) : KeepsGuarded n s.regs (writePiece v s p).regs := by
  by_cases hp : p.reg = some (.str .ctl n)
  · rcases writePiece_regs v s p with heq | ⟨r, u, val, hr, hu, heq⟩
    · exact heq ▸ KeepsGuarded.refl n _
    · obtain rfl : r = .str .ctl n := Option.some.inj (hr.symm.trans hp)
      rw [heq] at hrun
      rw [heq, ← hu]
      exact keepsGuarded_wSdctl hrun
  · exact (keepsRunning_writePiece hp v s hrun).2

/-! ### The pieces together -/

theorem writePieces_cons (v : Word) (p : Piece) (ps : List Piece) (s : State) :
    writePieces v (p :: ps) s = writePieces v ps (writePiece v s p) := rfl

theorem keepsRunning_writePieces {n : Stream} (v : Word) {ps : List Piece} (hps : ∀ p ∈ ps, p.reg ≠ some (.str .ctl n)) :
    ∀ s, KeepsRunning n s.regs (writePieces v ps s).regs := by
  induction ps with
  | nil => exact fun s => (SameStr.refl n s.regs).keepsRunning
  | cons p ps ih =>
    obtain ⟨hp, hrest⟩ := List.forall_mem_cons.mp hps
    intro s
    rw [writePieces_cons]
    exact (keepsRunning_writePiece hp v s).trans (ih hrest _)

/-- No piece of SDCTL comes after one that could have changed a guarded register of its stream. -/
def ControlFirst (n : Stream) (ps : List Piece) : Prop :=
  ps.Pairwise fun p q => (∃ r ∈ disturbing n, p.reg = some r) → q.reg ≠ some (.str .ctl n)

/-- Pieces that leave the stream running leave its guarded registers alone, even if one of them starts it. -/
theorem keepsGuarded_writePieces {n : Stream} {v : Word} {ps : List Piece} (hps : ControlFirst n ps) :
    ∀ s, (writePieces v ps s).regs.run n = true → KeepsGuarded n s.regs (writePieces v ps s).regs := by
  induction ps with
  | nil => exact fun s _ => KeepsGuarded.refl n s.regs
  | cons p ps ih =>
    obtain ⟨hfirst, hrest⟩ := List.pairwise_cons.mp hps
    intro s hrun
    rw [writePieces_cons] at hrun ⊢
    by_cases hp : ∃ r ∈ disturbing n, p.reg = some r
    · obtain ⟨hrun', hkeep⟩ := keepsRunning_writePieces v (fun q hq => hfirst q hq hp) _ hrun
      exact (keepsGuarded_writePiece hrun').trans hkeep
    · have hquiet : ∀ r ∈ disturbing n, p.reg ≠ some r := fun r hr heq => hp ⟨r, hr, heq⟩
      exact (sameStr_writePiece hquiet v s).keepsGuarded.trans (ih hrest _ hrun)

/-! ### Every transaction has its piece of SDCTL first (R136) -/

theorem bytePiece_reg (off i : Nat) : (bytePiece off i).reg = (decodeByte (off + i)).map Prod.fst := by
  unfold bytePiece
  split
  · next h => rw [h]; rfl
  · next h => rw [h]; rfl

theorem mem_joinPiece {p q : Piece} {l : List Piece} (h : q ∈ joinPiece p l) : q.reg = p.reg ∨ q ∈ l := by
  cases l with
  | nil => exact .inl (List.mem_singleton.mp h ▸ rfl)
  | cons x rest =>
    have hjoin : joinPiece p (x :: rest) = if p.reg = x.reg then { p with hi := x.hi } :: rest else p :: x :: rest := rfl
    rw [hjoin] at h
    split at h
    · rcases List.mem_cons.mp h with rfl | h
      · exact .inl rfl
      · exact .inr (List.mem_cons_of_mem _ h)
    · rcases List.mem_cons.mp h with rfl | h
      · exact .inl rfl
      · exact .inr h

/-- A piece has the register of one of the bytes. -/
theorem reg_of_mem_piecesFrom {off : Nat} {p : Piece} (k : Nat) : ∀ i, p ∈ piecesFrom off i k →
    ∃ j, i ≤ j ∧ j < i + k ∧ p.reg = (decodeByte (off + j)).map Prod.fst := by
  induction k with
  | zero => exact fun _ h => absurd h (List.not_mem_nil)
  | succ k ih =>
    intro i h
    rcases mem_joinPiece h with hreg | hrest
    · exact ⟨i, Nat.le_refl i, by omega, hreg.trans (bytePiece_reg off i)⟩
    · obtain ⟨j, hle, hlt, hreg⟩ := ih (i + 1) hrest
      exact ⟨j, by omega, by omega, hreg⟩

theorem ctl_low (o : Fin 0x180) (n : Stream) (h : (decodeByte o.val).map Prod.fst = some (.str .ctl n)) :
    0x80 + 0x20 * n.val ≤ o.val ∧ o.val < 0x83 + 0x20 * n.val := by
  revert o n
  decide +kernel

/-- The second offsets are of other registers (R25). -/
theorem ctl_high (d : Fin 0x154) (n : Stream) : (decodeByte (0x2030 + d.val)).map Prod.fst ≠ some (.str .ctl n) := by
  revert d n
  decide +kernel

/-- The bytes of SDCTL (R24). -/
theorem offset_of_ctl {o : Nat} {n : Stream} (h : (decodeByte o).map Prod.fst = some (.str .ctl n)) :
    0x80 + 0x20 * n.val ≤ o ∧ o < 0x83 + 0x20 * n.val := by
  by_cases hlow : o < 0x180
  · exact ctl_low ⟨o, hlow⟩ n h
  · by_cases hhigh : 0x2030 ≤ o ∧ o < 0x2184
    · have hnone := ctl_high ⟨o - 0x2030, by omega⟩ n
      rw [Nat.add_sub_cancel' hhigh.1] at hnone
      exact absurd h hnone
    · rw [decodeByte_gap (by omega)] at h
      cases h

/-- The transactions that reach SDCTL begin at most three bytes before it, where no guarded register of its stream
lies, nor GCTL. -/
theorem controlFirst_near (n : Stream) (d : Fin 6) :
    ∀ w ∈ allWidths, ControlFirst n (pieces (0x7D + 0x20 * n.val + d.val) w) := by
  unfold ControlFirst
  revert n d
  decide +kernel

theorem controlFirst_pieces (n : Stream) (off : Nat) (w : Width) : ControlFirst n (pieces off w) := by
  by_cases hctl : ∃ p ∈ pieces off w, p.reg = some (.str .ctl n)
  · obtain ⟨p, hp, hreg⟩ := hctl
    obtain ⟨j, _, hlt, hbyte⟩ := reg_of_mem_piecesFrom w.bytes 0 hp
    obtain ⟨hge, hle⟩ := offset_of_ctl (hbyte.symm.trans hreg)
    have hw := Width.bytes_le w
    have hnear := controlFirst_near n ⟨off - (0x7D + 0x20 * n.val), by omega⟩ w w.mem_allWidths
    rwa [Nat.add_sub_cancel' (by omega)] at hnear
  · exact List.pairwise_of_forall_mem_list fun _ _ q hq _ hreg => hctl ⟨q, hq, hreg⟩

theorem keepsGuarded_hostWrite {n : Stream} {off : Nat} {w : Width} {v : Word} {s : State}
    (hrun : (hostWrite off w v s).regs.run n = true) : KeepsGuarded n s.regs (hostWrite off w v s).regs := by
  have hnoted : NoStream (writePieces v (pieces off w) s)
      (noteUnmapped (pieces off w) (writePieces v (pieces off w) s)) := by
    rw [noteUnmapped_eq]
    exact noStream_of_eq rfl rfl rfl
  have hend := ((hnoted.trans (noStream_endWrite _)).sameStream n).regs.toSameStr
  exact (keepsGuarded_writePieces (controlFirst_pieces n off w) s (hend.run.symm.trans hrun)).trans hend.keepsGuarded

/-! ### Every operation but RESTORE -/

theorem keepsGuarded_tick {m n : Stream} {s t : State} (h : tick m s = .next t) : KeepsGuarded n s.regs t.regs := by
  have hother : ∀ k ∈ guardedKinds, k ≠ .sts ∧ k ≠ .lpib := by decide
  intro k hk
  obtain ⟨hsts, hlpib⟩ := hother k hk
  exact (tick_only h).1.regs _ (by simp [hsts]) (by simp [hlpib])

theorem form_ne_restore {i : Instr} (h : i ≠ .restore) : i.form ≠ .restore := by
  intro hform
  have hi := Instr.ofForm_form i
  rw [hform] at hi
  exact h hi.symm

theorem NoStream.keepsGuarded {s t : State} (h : NoStream s t) (n : Stream) : KeepsGuarded n s.regs t.regs :=
  fun k _ => h.str k n

theorem keepsGuarded_runForm {f : Form} {s t : State} {n : Stream} (hf : f ≠ .restore) (h : runForm f s = .next t)
    (hrun : t.regs.run n = true) : KeepsGuarded n s.regs t.regs := by
  have hnext {u : State} (hu : Host.Outcome.next u = (.next t : Host.Outcome State Fault Refusal)) : t = u :=
    (Host.Outcome.next.inj hu).symm
  have hsame {u : State} (hu : t = u) (hregs : u.regs = s.regs) : KeepsGuarded n s.regs t.regs := by
    rw [hu, hregs]
    exact KeepsGuarded.refl n _
  cases f with
  | restore => exact absurd rfl hf
  | rd _ _ w | rdUnmapped _ w =>
    exact hnext h ▸ (noStream_hostRead _ w s).keepsGuarded n
  | wr _ _ w v | wrUnmapped _ w v =>
    rw [hnext h] at hrun ⊢
    exact keepsGuarded_hostWrite hrun
  | drain =>
    unfold runForm execDrain at h
    dsimp only at h
    split at h
    · exact hnext h ▸ (noStream_drain s).keepsGuarded n
    · cases h
  | tick m =>
    unfold runForm execTick at h
    dsimp only at h
    split at h
    · exact keepsGuarded_tick h
    · cases h
  | sink m k =>
    unfold runForm execSink at h
    dsimp only at h
    split at h
    · next j _ => exact hsame (hnext h) (sinkStep_only j k.toNat s).regs
    · cases h
  | time d =>
    unfold runForm execTime timeStep at h
    dsimp only at h
    split at h
    · exact hsame (hnext h) rfl
    · cases h
  | save =>
    exact hsame (hnext h) rfl
  | poweroff =>
    exact hsame (hnext h) (disableAll_regs s)
  | poreset =>
    rw [hnext h, poreset_regs, run_resetRegs] at hrun
    cases hrun

/-- Settles O38: a piece of a write that changes a guarded register leaves the stream not running, and none that starts
the stream again follows it. -/
theorem restrictedWhileRunning : Obligations.RestrictedWhileRunning := by
  intro i s t n k hi h _ hrun hk
  exact keepsGuarded_runForm (form_ne_restore hi) (exec_eq_runForm i s ▸ h) hrun k hk

end Sys2Proof.Machine
end

section
/-! Guest memory keeps its canonical form (20_memory.md R70, R75, R76): no operation backs or unbacks an address, and
the canonical form is a property of the backed addresses. -/

namespace Sys2Proof.Machine

/-- No operation backs or unbacks an address (R75, R76). -/
theorem exec_addrs {i : Instr} {s t : State} (h : exec i s = .next t) : t.mem.addrs = s.mem.addrs := by
  obtain ⟨off, w, ht⟩ | ⟨off, w, v, ht⟩ | ⟨_, ht⟩ | ⟨n, htick⟩ | ⟨n, k, ht⟩ | ⟨d, _, ht⟩ | ht |
    ⟨r, _, ht⟩ | ht | ht := exec_next h
  · exact ht ▸ (kept_hostRead off w s).addrs
  · exact ht ▸ (kept_hostWrite off w v s).addrs
  · exact ht ▸ (kept_drain s).addrs
  · exact (tick_only htick).1.addrs
  · exact ht ▸ (sinkStep_only n k s).kept.addrs
  · rw [ht]
  · rw [ht]
    rfl
  · exact ht ▸ (kept_restore r s).addrs
  · exact ht ▸ (quiet_disableAll s).kept.addrs
  · exact ht ▸ (kept_poreset s).addrs

/-- Settles O55: the operation of a step keeps the list of backed addresses, of which alone the canonical form speaks. -/
theorem memoryInvariant : Obligations.MemoryInvariant := by
  intro s t hs h
  obtain ⟨x, rest, i, _, _, hexec⟩ := step_next h
  have haddrs : t.mem.addrs = s.mem.addrs := exec_addrs (s := { s with pending := rest }) hexec
  exact (Memory.wf_congr haddrs).trans hs

end Sys2Proof.Machine
end

section
/-! What a read returns (40_mmio_dispatch.md R131 to R134, R141, R142) and what it changes (20_memory.md R78), also at
the second offsets of 10_state.md R25. -/

namespace Sys2Proof.Machine

/-- A read transaction is a bus read at its offset (R104). -/
theorem exec_readsAt {i : Instr} {off : Nat} {w : Width} (h : ReadsAt i off w) (s : State) :
    exec i s = .next (hostRead off w s) := by
  rcases h with ⟨u, lo, hform, rfl⟩ | ⟨o, hform, rfl⟩
  · exact exec_rd hform s
  · rw [exec_eq_runForm, hform]
    rfl

/-- The offset of a read of a row's register is the row's and the byte's in it (R104). -/
theorem readsAt_off {i : Instr} {off : Nat} {w w' : Width} {u : Target} {lo : Fin 4} (h : ReadsAt i off w)
    (hu : i.form = .rd u lo w') : off = u.off + lo.val := by
  rcases h with ⟨u', lo', hform, rfl⟩ | ⟨o, hform, _⟩
  · obtain ⟨rfl, rfl, _⟩ := Form.rd.inj (hu.symm.trans hform)
    rfl
  · cases hu.symm.trans hform

/-- A row's offsets decode to the bytes of the register it stands for (R25, R103). -/
theorem decodeByte_target {u : Target} {j : Nat} (hj : j < u.width) : decodeByte (u.off + j) = some (u.register, j) := by
  cases u with
  | reg r => exact decodeByte_reg hj (Nat.lt_of_lt_of_le hj (width_bounds r).2)
  | dup a =>
    cases a with
    | walclk => exact decodeByte_dup_walclk j hj
    | lpib n => exact decodeByte_dup_lpib n j hj

/-- A read of the whole of a row's register returns what a read at the register's own offset does (R25, R131). -/
theorem hostRead_target {u : Target} {w : Width} (hw : w.bytes = u.width) (s : State) :
    (hostRead u.off w s).out.readData = shown s u.register := by
  rw [← hostRead_whole hw s]
  refine eq_of_byteLane fun j hj => ?_
  rw [hostRead_bytes _ _ _ _ hj, hostRead_bytes _ _ _ _ hj]
  by_cases hlt : j < u.width
  · rw [decodeByte_target hlt, decodeByte_reg hlt hj]
  · rw [if_neg (hw ▸ hlt), if_neg (hw ▸ hlt)]

/-- A read changes the value returned, and the registers as WALCLK.EVAL does if it covers a byte of WALCLK (R78). -/
theorem hostRead_changes (off : Nat) (w : Width) (s : State) :
    hostRead off w s =
      { s with
        regs := if coversClock off w.bytes then (walclkEval s).regs else s.regs,
        out := { s.out with readData := (hostRead off w s).out.readData } } := by
  conv => lhs; rw [hostRead_eq]
  unfold readState
  split
  · conv => lhs; rw [walclkEval_eq]
  · rfl

/-- Settles O10: the loop over the bytes of a read gives each byte of the result, the bytes of a register decode to it
at either offset, and only the wall clock's handler changes the state. -/
theorem readReturnsBytes : Obligations.ReadReturnsBytes := by
  intro i off w s hread
  refine ⟨hostRead off w s, exec_readsAt hread s, hostRead_changes off w s, ?_, ?_⟩
  · intro j hj
    rw [hostRead_bytes off w s j hj]
    cases decodeByte (off + j) with
    | none => rfl
    | some p =>
      obtain ⟨r, k⟩ := p
      dsimp only
      rw [shown_eq]
  · intro u hform hw
    have hoff : off = u.off := readsAt_off hread hform
    rw [hoff, hostRead_target hw, shown_eq]

end Sys2Proof.Machine
end

section
/-! RIRB.FLUSH (42_corb_rirb.md R207, R209; 20_memory.md R72, R76): the bytes of the response mirror in order, and what
guest memory holds at and outside their addresses after they are written. -/

namespace Sys2Proof.Machine

/-! ### The bytes of the mirror (R72) -/

/-- Byte `j` of a little-endian sequence is the value's `j`-th byte. -/
theorem getElem?_leBytes (k : Nat) : ∀ (v j : Nat), j < k →
    (leBytes k v)[j]? = some (BitVec.ofNat 8 (v / 2 ^ (8 * j))) := by
  induction k with
  | zero => intro v j hj; exact absurd hj (Nat.not_lt_zero j)
  | succ k ih =>
    intro v j hj
    cases j with
    | zero => simp [leBytes]
    | succ j =>
      rw [leBytes, List.getElem?_cons_succ, ih _ _ (Nat.lt_of_succ_lt_succ hj), Nat.div_div_eq_div_mul, Nat.mul_succ,
        Nat.add_comm, Nat.pow_add]

/-- `toLE64` puts the least significant byte first (R72). -/
theorem getElem?_toLe64 (v : Quad) {j : Nat} (hj : j < 8) : (toLe64 v)[j]? = some (v.extractLsb' (8 * j) 8) := by
  rw [toLe64, getElem?_leBytes 8 _ j hj, BitVec.extractLsb', Nat.shiftRight_eq_div_pow]

theorem rirbBytes_succ (buf : Vector Quad 256) (cap : Nat) :
    rirbBytes buf (cap + 1) = rirbBytes buf cap ++ toLe64 (buf[cap]?.getD 0) := by
  unfold rirbBytes
  rw [List.range_succ, List.flatMap_append, List.flatMap_singleton]

/-- Byte `j` of entry `i` stands at place `8 * i + j` (R207). -/
theorem getElem?_rirbBytes (buf : Vector Quad 256) {i j : Nat} (hj : j < 8) : ∀ cap, i < cap →
    (rirbBytes buf cap)[8 * i + j]? = some ((buf[i]?.getD 0).extractLsb' (8 * j) 8) := by
  intro cap
  induction cap with
  | zero => intro hi; exact absurd hi (Nat.not_lt_zero i)
  | succ cap ih =>
    intro hi
    have hlen := length_rirbBytes buf cap
    rw [rirbBytes_succ]
    rcases Nat.lt_succ_iff_lt_or_eq.mp hi with hlt | rfl
    · rw [List.getElem?_append_left (by omega), ih hlt]
    · rw [List.getElem?_append_right (by omega), hlen, Nat.add_sub_cancel_left, getElem?_toLe64 _ hj]

/-! ### Guest memory after a flush (R76, R209) -/

/-- A flush writes the mirror where the ring can be read, and nothing where it cannot (R76, R209). -/
theorem flushedMem_eq (s : State) :
    (s.mem.read s.regs.rirbBase (8 * s.regs.rirbCap) = none ∧ flushedMem s = s.mem) ∨
    (s.mem.read s.regs.rirbBase (8 * s.regs.rirbCap) ≠ none ∧
      s.mem.write s.regs.rirbBase (rirbBytes s.rirbBuf s.regs.rirbCap) = some (flushedMem s)) := by
  have hreads := Memory.write_isSome s.mem s.regs.rirbBase (rirbBytes s.rirbBuf s.regs.rirbCap)
  rw [length_rirbBytes] at hreads
  unfold flushedMem
  cases hw : s.mem.write s.regs.rirbBase (rirbBytes s.rirbBuf s.regs.rirbCap) with
  | none =>
    rw [hw] at hreads
    exact .inl ⟨Option.not_isSome_iff_eq_none.mp (Bool.eq_false_iff.mp hreads.symm), rfl⟩
  | some m =>
    rw [hw] at hreads
    exact .inr ⟨Option.isSome_iff_ne_none.mp hreads.symm, rfl⟩

/-- A flush stores no byte outside the response ring (R207). -/
theorem flushedMem_outside {s : State} {a : Nat} (ha : ¬ inResponseRing s a) : (flushedMem s).byte a = s.mem.byte a := by
  rcases flushedMem_eq s with ⟨_, hmem⟩ | ⟨_, hwrite⟩
  · rw [hmem]
  · rw [Memory.byte_write hwrite, length_rirbBytes]
    exact if_neg ha

/-- Where the ring can be read a flush stores every byte of every entry (R72, R207). -/
theorem flushedMem_entry {s : State} (hread : s.mem.read s.regs.rirbBase (8 * s.regs.rirbCap) ≠ none) {i j : Nat}
    (hi : i < s.regs.rirbCap) (hj : j < 8) :
    (flushedMem s).byte (s.regs.rirbBase + 8 * i + j) = some ((s.rirbBuf[i]?.getD 0).extractLsb' (8 * j) 8) := by
  rcases flushedMem_eq s with ⟨hnone, _⟩ | ⟨_, hwrite⟩
  · exact absurd hnone hread
  · rw [Memory.byte_write hwrite, length_rirbBytes, if_pos (by omega), Nat.add_assoc, Nat.add_sub_cancel_left,
      getElem?_rirbBytes _ hj _ hi]

theorem rirbFlush_mem (s : State) : (rirbFlush s).mem = flushedMem s := by rw [rirbFlush_eq]

/-- Settles O42: the write of the mirror stores entry `i` at `8 * i` into the ring or fails as a whole; the rest of the
state is in the equation of the flush. -/
theorem responseRing : Obligations.ResponseRing := by
  intro s
  dsimp only
  rw [rirbFlush_mem]
  refine ⟨fun a ha => flushedMem_outside ha, fun hnone => ?_, fun hread i hi j hj => flushedMem_entry hread hi hj,
    rirbFlush_eq s, rfl⟩
  rcases flushedMem_eq s with ⟨_, hmem⟩ | ⟨hread, _⟩
  · exact hmem
  · exact absurd hnone hread

end Sys2Proof.Machine
end

section
/-! A step takes the next operation word and performs its operation (20_memory.md R86, 30_encoding.md R101). -/

namespace Sys2Proof.Machine

/-- Nothing to take, nothing to perform. -/
theorem step_of_pending_nil {s : State} (h : s.pending = []) : step s = .refused .noOperation := by
  unfold step State.takeWord
  rw [h]

/-- A word that encodes no operation is refused (R101). -/
theorem step_of_undecodable {s : State} {x : Quad} {rest : List Quad} {e : DecodeError} (h : s.pending = x :: rest)
    (hx : decode x = .error e) : step s = .refused (.undecodable e) := by
  unfold step State.takeWord
  rw [h]
  dsimp only
  rw [hx]

/-- A word that encodes an operation is taken and its operation performed (R86). -/
theorem step_of_decode {s : State} {x : Quad} {rest : List Quad} {i : Instr} (h : s.pending = x :: rest)
    (hx : decode x = .ok i) : step s = exec i { s with pending := rest } := by
  unfold step State.takeWord
  rw [h]
  dsimp only
  rw [hx]

/-- Settles O5: the three answers of a step by its next word; a word put at the head is the one that is taken. -/
theorem stepRunsDecoded : Obligations.StepRunsDecoded := by
  intro s
  exact ⟨step_of_pending_nil, fun _ _ _ => step_of_undecodable, fun _ _ _ => step_of_decode,
    fun nbits w i => step_of_decode (s := s.withFetchWord nbits w) rfl⟩

end Sys2Proof.Machine
end

section
/-! Operation words (30_encoding.md R101, R103, R104): the four fields of a word, the row of the opcode table that an
offset starts in, and the table of R101 as a relation between the fields and the form they encode, from which the
decoder, the encoder and the legal words are all read off. -/

namespace Sys2Proof.Machine

/-! ### The fields of a word (R101) -/

/-- Four numbers fit the fields KIND, A, OFF and DATA. -/
structure FieldsFit (kind a off data : Nat) : Prop where
  kind : kind < 2 ^ 4
  a : a < 2 ^ 4
  off : off < 2 ^ 24
  data : data < 2 ^ 32

theorem fieldsFit (x : Quad) : FieldsFit (opwKind x) (opwA x) (opwOff x) (opwData x) := by
  have hx := x.isLt
  constructor
  · unfold opwKind
    omega
  · exact Nat.mod_lt _ (by decide)
  · exact Nat.mod_lt _ (by decide)
  · exact Nat.mod_lt _ (by decide)

/-- A word is the word of its fields. -/
theorem opwWord_fields (x : Quad) : opwWord (opwKind x) (opwA x) (opwOff x) (opwData x) = x := by
  have hx := x.isLt
  refine BitVec.eq_of_toNat_eq ?_
  unfold opwWord opwKind opwA opwOff opwData
  rw [BitVec.toNat_ofNat]
  omega

section
variable {kind a off data : Nat} (h : FieldsFit kind a off data)
include h

/-- The fields do not overlap: their word is their sum, without a carry out of 64 bits. -/
theorem toNat_opwWord : (opwWord kind a off data).toNat = kind * 2 ^ 60 + a * 2 ^ 56 + off * 2 ^ 32 + data := by
  obtain ⟨hkind, ha, hoff, hdata⟩ := h
  unfold opwWord
  rw [BitVec.toNat_ofNat]
  omega

theorem opwKind_opwWord : opwKind (opwWord kind a off data) = kind := by
  obtain ⟨hkind, ha, hoff, hdata⟩ := id h
  unfold opwKind
  rw [toNat_opwWord h]
  omega

theorem opwA_opwWord : opwA (opwWord kind a off data) = a := by
  obtain ⟨hkind, ha, hoff, hdata⟩ := id h
  unfold opwA
  rw [toNat_opwWord h]
  omega

theorem opwOff_opwWord : opwOff (opwWord kind a off data) = off := by
  obtain ⟨hkind, ha, hoff, hdata⟩ := id h
  unfold opwOff
  rw [toNat_opwWord h]
  omega

theorem opwData_opwWord : opwData (opwWord kind a off data) = data := by
  obtain ⟨hkind, ha, hoff, hdata⟩ := id h
  unfold opwData
  rw [toNat_opwWord h]
  omega

end

/-! ### The row an offset starts in (R103) -/

theorem byteWithin_eq_some {off width o j : Nat} (h : byteWithin off width o = some j) : o = off + j ∧ j < width := by
  unfold byteWithin at h
  split at h
  · cases h
    omega
  · cases h

theorem dupAt_eq_some {o j : Nat} {a : Dup} (h : dupAt o = some (a, j)) : o = a.off + j ∧ j < a.reg.width := by
  unfold dupAt at h
  split at h
  next k hclock =>
    cases h
    exact byteWithin_eq_some hclock
  next =>
    split at h
    · obtain ⟨k, hlpib, heq⟩ := Option.map_eq_some_iff.mp h
      cases heq
      exact byteWithin_eq_some hlpib
    · cases h

theorem regAt_eq_some {o j : Nat} {r : Reg} (h : regAt o = some (r, j)) : o = r.off + j ∧ j < r.width := by
  unfold regAt at h
  split at h
  · obtain ⟨g, _, hg⟩ := List.exists_of_findSome?_eq_some h
    obtain ⟨k, hin, heq⟩ := Option.map_eq_some_iff.mp hg
    cases heq
    exact byteWithin_eq_some hin
  · split at h
    · obtain ⟨s, _, hs⟩ := List.exists_of_findSome?_eq_some h
      obtain ⟨k, hin, heq⟩ := Option.map_eq_some_iff.mp hs
      cases heq
      exact byteWithin_eq_some hin
    · cases h

/-- The row found at an offset covers it. -/
theorem targetAt_eq_some {o j : Nat} {t : Target} (h : targetAt o = some (t, j)) : o = t.off + j ∧ j < t.width := by
  unfold targetAt at h
  split at h
  next a k hdup =>
    cases h
    exact dupAt_eq_some hdup
  next =>
    obtain ⟨p, hreg, heq⟩ := Option.map_eq_some_iff.mp h
    cases heq
    exact regAt_eq_some hreg

theorem targetAt_target_all : ∀ t ∈ allTargets, ∀ lo : Fin 4, lo.val < t.width →
    targetAt (t.off + lo.val) = some (t, lo.val) := by
  decide +kernel

/-- The rows do not overlap: the row found at an offset of a row is that row. -/
theorem targetAt_target {t : Target} {lo : Fin 4} (h : lo.val < t.width) :
    targetAt (t.off + lo.val) = some (t, lo.val) :=
  targetAt_target_all t t.mem_allTargets lo h

/-- An offset is a byte of one row, or of none. -/
theorem targetAt_cases (o : Nat) :
    (∃ (t : Target) (lo : Fin 4), lo.val < t.width ∧ o = t.off + lo.val) ∨ targetAt o = none := by
  cases h : targetAt o with
  | none => exact .inr rfl
  | some p =>
    obtain ⟨t, j⟩ := p
    obtain ⟨ho, hj⟩ := targetAt_eq_some h
    exact .inl ⟨t, ⟨j, Nat.lt_of_lt_of_le hj (width_bounds t.register).2⟩, hj, ho⟩

/-! ### The form of a transaction (R104) -/

theorem readForm_target {t : Target} {lo : Fin 4} (h : lo.val < t.width) (w : Width) :
    readForm (t.off + lo.val) w = .rd t lo w := by
  unfold readForm
  rw [targetAt_target h]
  exact congrArg (Form.rd t · w) (Fin.ofNat_val_eq_self lo)

theorem writeForm_target {t : Target} {lo : Fin 4} (h : lo.val < t.width) (w : Width) (v : Word) :
    writeForm (t.off + lo.val) w v = .wr t lo w v := by
  unfold writeForm
  rw [targetAt_target h]
  exact congrArg (Form.wr t · w v) (Fin.ofNat_val_eq_self lo)

theorem readForm_unmapped {o : Nat} (h : targetAt o = none) (w : Width) :
    readForm o w = .rdUnmapped (BitVec.ofNat 24 o) w := by
  unfold readForm
  rw [h]

theorem writeForm_unmapped {o : Nat} (h : targetAt o = none) (w : Width) (v : Word) :
    writeForm o w v = .wrUnmapped (BitVec.ofNat 24 o) w v := by
  unfold writeForm
  rw [h]

/-- An offset inside the window fits the field OFF. -/
theorem toNat_ofNat_off {o : Nat} {w : Width} (h : o + w.bytes ≤ window) : (BitVec.ofNat 24 o).toNat = o := by
  have hwindow : window = 0x4000 := rfl
  rw [BitVec.toNat_ofNat]
  omega

/-- The form of a read inside the window is one of the controller's operations, and its word has the read's fields. -/
theorem readForm_sound {o : Nat} {w : Width} (h : o + w.bytes ≤ window) :
    (readForm o w).wf = true ∧ encodeForm (readForm o w) = opwWord 0x0 w.bytes o 0 := by
  rcases targetAt_cases o with ⟨t, lo, hlo, rfl⟩ | hnone
  · rw [readForm_target hlo]
    exact ⟨by simp [Form.wf, startsInside, inWindow, hlo, h], rfl⟩
  · rw [readForm_unmapped hnone]
    simp [Form.wf, encodeForm, uncovered, inWindow, toNat_ofNat_off h, hnone, h, -BitVec.toNat_ofNat]

/-- The form of a write inside the window whose value has the write's width, likewise. -/
theorem writeForm_sound {o : Nat} {w : Width} {v : Word} (h : o + w.bytes ≤ window)
    (hv : v.toNat < 2 ^ (8 * w.bytes)) :
    (writeForm o w v).wf = true ∧ encodeForm (writeForm o w v) = opwWord 0x1 w.bytes o v.toNat := by
  rcases targetAt_cases o with ⟨t, lo, hlo, rfl⟩ | hnone
  · rw [writeForm_target hlo]
    exact ⟨by simp [Form.wf, startsInside, inWindow, valueFits, hlo, h, hv], rfl⟩
  · rw [writeForm_unmapped hnone]
    simp [Form.wf, encodeForm, uncovered, inWindow, valueFits, toNat_ofNat_off h, hnone, h, hv, -BitVec.toNat_ofNat]

/-! ### The table of R101 -/

/-- The fields KIND, A, OFF and DATA encode the form: the rows of the table of R101. -/
inductive Encodes : Nat → Nat → Nat → Nat → Form → Prop
  | read (w : Width) (off : Nat) (hoff : off + w.bytes ≤ window) : Encodes 0x0 w.bytes off 0 (readForm off w)
  | write (w : Width) (off data : Nat) (hdata : data < 2 ^ (8 * w.bytes)) (hoff : off + w.bytes ≤ window) :
      Encodes 0x1 w.bytes off data (writeForm off w (BitVec.ofNat 32 data))
  | drain : Encodes 0x2 0 0 0 .drain
  | tick (n : Nat) (hn : n < nStreams) : Encodes 0x3 n 0 0 (.tick (BitVec.ofNat 4 n))
  | sink (n data : Nat) (hn : n < nStreams) : Encodes 0x4 n 0 data (.sink (BitVec.ofNat 4 n) (BitVec.ofNat 32 data))
  | time (data : Nat) : Encodes 0x5 0 0 data (.time (BitVec.ofNat 32 data))
  | save : Encodes 0x6 0 0 0 .save
  | restore : Encodes 0x7 0 0 0 .restore
  | poweroff : Encodes 0x8 0 0 0 .poweroff
  | poreset : Encodes 0x9 0 0 0 .poreset

theorem widthOf_eq_some_iff {a : Nat} {w : Width} : widthOf a = some w ↔ a = w.bytes := by
  constructor
  · intro h
    unfold widthOf at h
    split at h <;> cases h <;> rfl
  · rintro rfl
    cases w <;> rfl

section
variable {a off data : Nat} {f : Form}

theorem decodeRead_eq_ok_iff :
    decodeRead a off data = .ok f ↔
      ∃ w : Width, a = w.bytes ∧ data = 0 ∧ off + w.bytes ≤ window ∧ readForm off w = f := by
  simp only [← widthOf_eq_some_iff]
  unfold decodeRead
  cases widthOf a with
  | none => simp
  | some w => grind

theorem decodeWrite_eq_ok_iff :
    decodeWrite a off data = .ok f ↔
      ∃ w : Width, a = w.bytes ∧ data < 2 ^ (8 * w.bytes) ∧ off + w.bytes ≤ window ∧
        writeForm off w (BitVec.ofNat 32 data) = f := by
  simp only [← widthOf_eq_some_iff]
  unfold decodeWrite
  cases widthOf a with
  | none => simp
  | some w => grind

theorem decodePlain_eq_ok_iff {g : Form} :
    decodePlain g a off data = .ok f ↔ a = 0 ∧ off = 0 ∧ data = 0 ∧ g = f := by
  unfold decodePlain
  grind

theorem decodeTick_eq_ok_iff :
    decodeTick a off data = .ok f ↔ a < nStreams ∧ off = 0 ∧ data = 0 ∧ .tick (BitVec.ofNat 4 a) = f := by
  unfold decodeTick
  grind

theorem decodeSink_eq_ok_iff :
    decodeSink a off data = .ok f ↔
      a < nStreams ∧ off = 0 ∧ .sink (BitVec.ofNat 4 a) (BitVec.ofNat 32 data) = f := by
  unfold decodeSink
  grind

theorem decodeTime_eq_ok_iff :
    decodeTime a off data = .ok f ↔ a = 0 ∧ off = 0 ∧ .time (BitVec.ofNat 32 data) = f := by
  unfold decodeTime
  grind

end

/-- The decoder reads the table of R101: it answers with a form exactly where the fields encode it. -/
theorem decodeForm_eq_ok_iff {x : Quad} {f : Form} :
    decodeForm x = .ok f ↔ Encodes (opwKind x) (opwA x) (opwOff x) (opwData x) f := by
  unfold decodeForm
  generalize opwKind x = kind, opwA x = a, opwOff x = off, opwData x = data
  constructor
  · intro h
    split at h
    · obtain ⟨w, rfl, rfl, hoff, rfl⟩ := decodeRead_eq_ok_iff.mp h
      exact .read w off hoff
    · obtain ⟨w, rfl, hdata, hoff, rfl⟩ := decodeWrite_eq_ok_iff.mp h
      exact .write w off data hdata hoff
    · obtain ⟨rfl, rfl, rfl, rfl⟩ := decodePlain_eq_ok_iff.mp h
      exact .drain
    · obtain ⟨hn, rfl, rfl, rfl⟩ := decodeTick_eq_ok_iff.mp h
      exact .tick a hn
    · obtain ⟨hn, rfl, rfl⟩ := decodeSink_eq_ok_iff.mp h
      exact .sink a data hn
    · obtain ⟨rfl, rfl, rfl⟩ := decodeTime_eq_ok_iff.mp h
      exact .time data
    · obtain ⟨rfl, rfl, rfl, rfl⟩ := decodePlain_eq_ok_iff.mp h
      exact .save
    · obtain ⟨rfl, rfl, rfl, rfl⟩ := decodePlain_eq_ok_iff.mp h
      exact .restore
    · obtain ⟨rfl, rfl, rfl, rfl⟩ := decodePlain_eq_ok_iff.mp h
      exact .poweroff
    · obtain ⟨rfl, rfl, rfl, rfl⟩ := decodePlain_eq_ok_iff.mp h
      exact .poreset
    · cases h
  · intro h
    cases h with
    | read w off hoff => exact decodeRead_eq_ok_iff.mpr ⟨w, rfl, rfl, hoff, rfl⟩
    | write w off data hdata hoff => exact decodeWrite_eq_ok_iff.mpr ⟨w, rfl, hdata, hoff, rfl⟩
    | tick n hn => exact decodeTick_eq_ok_iff.mpr ⟨hn, rfl, rfl, rfl⟩
    | sink n data hn => exact decodeSink_eq_ok_iff.mpr ⟨hn, rfl, rfl⟩
    | time data => rfl
    | drain | save | restore | poweroff | poreset => rfl

/-- The word of four fields decodes to the form that they encode. -/
theorem decodeForm_opwWord {kind a off data : Nat} {f : Form} (hfit : FieldsFit kind a off data)
    (h : Encodes kind a off data f) : decodeForm (opwWord kind a off data) = .ok f := by
  rwa [decodeForm_eq_ok_iff, opwKind_opwWord hfit, opwA_opwWord hfit, opwOff_opwWord hfit, opwData_opwWord hfit]

/-! ### The two directions -/

theorem bytes_bounds (w : Width) : 1 ≤ w.bytes ∧ w.bytes ≤ 4 := by cases w <;> decide

theorem exists_bytes_eq {a : Nat} (hpos : 1 ≤ a) (hle : a ≤ 4) : ∃ w : Width, a = w.bytes := by
  match a, hpos, hle with
  | 1, _, _ => exact ⟨.w1, rfl⟩
  | 2, _, _ => exact ⟨.w2, rfl⟩
  | 3, _, _ => exact ⟨.w3, rfl⟩
  | 4, _, _ => exact ⟨.w4, rfl⟩

theorem toNat_ofNat_ordinal {n : Nat} (h : n < nStreams) : (BitVec.ofNat 4 n).toNat = n :=
  Nat.mod_eq_of_lt (Nat.lt_trans h (by decide))

theorem Encodes.fieldsFit {kind a off data : Nat} {f : Form} (h : Encodes kind a off data f) (hdata : data < 2 ^ 32) :
    FieldsFit kind a off data := by
  have hwindow : window = 0x4000 := rfl
  have hstreams : nStreams = 8 := rfl
  cases h with
  | read w off hoff | write w off data _ hoff =>
    have hw := bytes_bounds w
    exact ⟨by omega, by omega, by omega, hdata⟩
  | tick n hn | sink n data hn => exact ⟨by omega, by omega, by omega, hdata⟩
  | drain | time data | save | restore | poweroff | poreset => exact ⟨by omega, by omega, by omega, hdata⟩

/-- The encoder follows the table too: the form that the fields encode is well-formed, and they are its fields. -/
theorem Encodes.sound {kind a off data : Nat} {f : Form} (h : Encodes kind a off data f) (hdata : data < 2 ^ 32) :
    f.wf = true ∧ encodeForm f = opwWord kind a off data := by
  have hvalue : (BitVec.ofNat 32 data).toNat = data := Nat.mod_eq_of_lt hdata
  cases h with
  | read w off hoff => exact readForm_sound hoff
  | write w off data hfits hoff =>
    obtain ⟨hwf, hword⟩ := writeForm_sound (v := BitVec.ofNat 32 data) hoff (by rwa [hvalue])
    rw [hvalue] at hword
    exact ⟨hwf, hword⟩
  | tick n hn =>
    have hordinal := toNat_ofNat_ordinal hn
    exact ⟨decide_eq_true (by rwa [hordinal]), congrArg (opwWord 0x3 · 0 0) hordinal⟩
  | sink n data hn =>
    have hordinal := toNat_ofNat_ordinal hn
    exact ⟨decide_eq_true (by rwa [hordinal]), congrArg₂ (opwWord 0x4 · 0 ·) hordinal hvalue⟩
  | time data => exact ⟨rfl, congrArg (opwWord 0x5 0 0) hvalue⟩
  | drain | save | restore | poweroff | poreset => exact ⟨rfl, rfl⟩

/-- Every well-formed form is in the table. -/
theorem exists_encodes {f : Form} (h : f.wf = true) :
    ∃ kind a off data, data < 2 ^ 32 ∧ Encodes kind a off data f := by
  have hzero : 0 < 2 ^ 32 := by decide
  cases f with
  | rd t lo w =>
    simp only [Form.wf, startsInside, inWindow, Bool.and_eq_true, decide_eq_true_eq] at h
    obtain ⟨hlo, hoff⟩ := h
    have hrow := Encodes.read w _ hoff
    rw [readForm_target hlo] at hrow
    exact ⟨_, _, _, _, hzero, hrow⟩
  | wr t lo w v =>
    simp only [Form.wf, startsInside, inWindow, valueFits, Bool.and_eq_true, decide_eq_true_eq] at h
    obtain ⟨⟨hlo, hoff⟩, hv⟩ := h
    have hrow := Encodes.write w _ v.toNat hv hoff
    rw [BitVec.ofNat_toNat, BitVec.setWidth_eq, writeForm_target hlo] at hrow
    exact ⟨_, _, _, _, v.isLt, hrow⟩
  | rdUnmapped off w =>
    simp only [Form.wf, uncovered, inWindow, Bool.and_eq_true, decide_eq_true_eq, Option.isNone_iff_eq_none] at h
    obtain ⟨hnone, hoff⟩ := h
    have hrow := Encodes.read w _ hoff
    rw [readForm_unmapped hnone, BitVec.ofNat_toNat, BitVec.setWidth_eq] at hrow
    exact ⟨_, _, _, _, hzero, hrow⟩
  | wrUnmapped off w v =>
    simp only [Form.wf, uncovered, inWindow, valueFits, Bool.and_eq_true, decide_eq_true_eq,
      Option.isNone_iff_eq_none] at h
    obtain ⟨⟨hnone, hoff⟩, hv⟩ := h
    have hrow := Encodes.write w _ v.toNat hv hoff
    rw [writeForm_unmapped hnone] at hrow
    simp only [BitVec.ofNat_toNat, BitVec.setWidth_eq] at hrow
    exact ⟨_, _, _, _, v.isLt, hrow⟩
  | tick n =>
    have hrow := Encodes.tick n.toNat (of_decide_eq_true h)
    rw [BitVec.ofNat_toNat, BitVec.setWidth_eq] at hrow
    exact ⟨_, _, _, _, hzero, hrow⟩
  | sink n k =>
    have hrow := Encodes.sink n.toNat k.toNat (of_decide_eq_true h)
    simp only [BitVec.ofNat_toNat, BitVec.setWidth_eq] at hrow
    exact ⟨_, _, _, _, k.isLt, hrow⟩
  | time d =>
    have hrow := Encodes.time d.toNat
    rw [BitVec.ofNat_toNat, BitVec.setWidth_eq] at hrow
    exact ⟨_, _, _, _, d.isLt, hrow⟩
  | drain => exact ⟨_, _, _, _, hzero, .drain⟩
  | save => exact ⟨_, _, _, _, hzero, .save⟩
  | restore => exact ⟨_, _, _, _, hzero, .restore⟩
  | poweroff => exact ⟨_, _, _, _, hzero, .poweroff⟩
  | poreset => exact ⟨_, _, _, _, hzero, .poreset⟩

/-- A well-formed form is decoded from its word. -/
theorem decodeForm_encodeForm {f : Form} (h : f.wf = true) : decodeForm (encodeForm f) = .ok f := by
  obtain ⟨kind, a, off, data, hdata, hrow⟩ := exists_encodes h
  obtain ⟨_, hword⟩ := hrow.sound hdata
  rw [hword]
  exact decodeForm_opwWord (hrow.fieldsFit hdata) hrow

/-- The decoder answers with an instruction exactly where the form read is that instruction's. -/
theorem decode_eq_ok_iff {x : Quad} {i : Instr} : decode x = .ok i ↔ decodeForm x = .ok i.form := by
  unfold decode
  cases decodeForm x with
  | error e => exact ⟨nofun, nofun⟩
  | ok f =>
    constructor
    · intro h
      cases h
      rw [Instr.form_ofForm]
    · intro h
      cases h
      exact congrArg Except.ok i.ofForm_form

/-- Settles O1: a well-formed form is in the table of R101, whose fields the encoder writes and the
decoder reads. -/
theorem decodeEncode : Obligations.DecodeEncode := by
  intro i hwf
  exact decode_eq_ok_iff.mpr (decodeForm_encodeForm hwf)

/-- Settles O2: the fields of a word that decodes are a row of the table, and its form is encoded by these fields. -/
theorem encodeDecode : Obligations.EncodeDecode := by
  intro x i h
  have hrow := decodeForm_eq_ok_iff.mp (decode_eq_ok_iff.mp h)
  obtain ⟨hwf, hword⟩ := hrow.sound (fieldsFit x).data
  exact ⟨hwf, hword.trans (opwWord_fields x)⟩

/-! ### The legal words -/

/-- The fields of a legal word, R101. -/
def LegalFields (kind a off data : Nat) : Prop :=
  (kind = 0x0 ∧ 1 ≤ a ∧ a ≤ 4 ∧ off + a ≤ 0x4000 ∧ data = 0) ∨
  (kind = 0x1 ∧ 1 ≤ a ∧ a ≤ 4 ∧ off + a ≤ 0x4000 ∧ data < 2 ^ (8 * a)) ∨
  (kind = 0x3 ∧ a < 8 ∧ off = 0 ∧ data = 0) ∨
  (kind = 0x4 ∧ a < 8 ∧ off = 0) ∨
  (kind = 0x5 ∧ a = 0 ∧ off = 0) ∨
  ((kind = 0x2 ∨ kind = 0x6 ∨ kind = 0x7 ∨ kind = 0x8 ∨ kind = 0x9) ∧ a = 0 ∧ off = 0 ∧ data = 0)

theorem Encodes.legalFields {kind a off data : Nat} {f : Form} (h : Encodes kind a off data f) :
    LegalFields kind a off data := by
  unfold LegalFields
  cases h with
  | read w off hoff =>
    obtain ⟨hpos, hle⟩ := bytes_bounds w
    exact .inl ⟨rfl, hpos, hle, hoff, rfl⟩
  | write w off data hdata hoff =>
    obtain ⟨hpos, hle⟩ := bytes_bounds w
    exact .inr (.inl ⟨rfl, hpos, hle, hoff, hdata⟩)
  | tick n hn => exact .inr (.inr (.inl ⟨rfl, hn, rfl, rfl⟩))
  | sink n data hn => exact .inr (.inr (.inr (.inl ⟨rfl, hn, rfl⟩)))
  | time data => simp
  | drain | save | restore | poweroff | poreset => simp

theorem LegalFields.exists_encodes {kind a off data : Nat} (h : LegalFields kind a off data) :
    ∃ f, Encodes kind a off data f := by
  rcases h with ⟨rfl, hpos, hle, hoff, rfl⟩ | ⟨rfl, hpos, hle, hoff, hdata⟩ | ⟨rfl, hn, rfl, rfl⟩ | ⟨rfl, hn, rfl⟩ |
    ⟨rfl, rfl, rfl⟩ | ⟨hkind, rfl, rfl, rfl⟩
  · obtain ⟨w, rfl⟩ := exists_bytes_eq hpos hle
    exact ⟨_, .read w off hoff⟩
  · obtain ⟨w, rfl⟩ := exists_bytes_eq hpos hle
    exact ⟨_, .write w off data hdata hoff⟩
  · exact ⟨_, .tick a hn⟩
  · exact ⟨_, .sink a data hn⟩
  · exact ⟨_, .time data⟩
  · rcases hkind with rfl | rfl | rfl | rfl | rfl
    · exact ⟨_, .drain⟩
    · exact ⟨_, .save⟩
    · exact ⟨_, .restore⟩
    · exact ⟨_, .poweroff⟩
    · exact ⟨_, .poreset⟩

/-- A word decodes exactly where its fields are legal. -/
theorem exists_decode_iff (x : Quad) :
    (∃ i, decode x = .ok i) ↔ LegalFields (opwKind x) (opwA x) (opwOff x) (opwData x) := by
  constructor
  · rintro ⟨i, h⟩
    exact (decodeForm_eq_ok_iff.mp (decode_eq_ok_iff.mp h)).legalFields
  · intro h
    obtain ⟨f, hrow⟩ := h.exists_encodes
    refine ⟨.ofForm f, decode_eq_ok_iff.mpr ?_⟩
    rw [Instr.form_ofForm]
    exact decodeForm_eq_ok_iff.mpr hrow

/-- A slice of a word, as a number. -/
theorem toNat_slice (x : Quad) (lo len : Nat) : (x.extractLsb' lo len).toNat = x.toNat / 2 ^ lo % 2 ^ len := by
  rw [BitVec.extractLsb'_toNat, Nat.shiftRight_eq_div_pow]

/-- Settles O3: a word decodes exactly where its fields are a row of the table, and the slices are these fields. -/
theorem legalWords : Obligations.LegalWords := by
  intro x
  have hkind : (x.extractLsb' 60 4).toNat = opwKind x := by
    rw [toNat_slice]
    exact Nat.mod_eq_of_lt (fieldsFit x).kind
  have ha : (x.extractLsb' 56 4).toNat = opwA x := toNat_slice x 56 4
  have hoff : (x.extractLsb' 32 24).toNat = opwOff x := toNat_slice x 32 24
  have hdata : (x.extractLsb' 0 32).toNat = opwData x := by
    rw [toNat_slice, pow_zero, Nat.div_one]
    rfl
  rw [hkind, ha, hoff, hdata]
  exact exists_decode_iff x

/-! ### Words written out (R102) -/

theorem decode_of_encode_eq {x : Quad} {i : Instr} (hwf : i.wf = true) (h : encode i = x) : decode x = .ok i :=
  h ▸ decodeEncode i hwf

/-- Settles O4: each word is the encoding of the well-formed operation it stands for, hence decodes to it. -/
theorem decodedWords : Obligations.DecodedWords := by
  refine ⟨?_, ?_, ?_, ?_, ?_, ?_, ?_, ?_, ?_, ?_, ?_, ?_⟩ <;> exact decode_of_encode_eq rfl rfl

end Sys2Proof.Machine
end

section
/-! A write inside one register (40_mmio_dispatch.md R135 to R140, R143): which bits its handler sees, what it hands to
the handler, and the registers that take it as it stands. -/

namespace Sys2Proof.Machine

/-! ### The end of a write (R135, R143) -/

/-- No kick, or no drain inside the write: the write ends with IRQ.EVAL (R87). -/
theorem endWrite_of_no_drain {u : State} (h : u.corbKick = false ∨ u.cfg.inlineDrain = false) :
    endWrite u = irqEval u := by
  unfold endWrite inlineDrain
  rcases h with h | h <;> simp [h]

/-- A kicked drain inside the write follows IRQ.EVAL (R87). -/
theorem endWrite_of_drain {u : State} (hkick : u.corbKick = true) (hinline : u.cfg.inlineDrain = true) :
    endWrite u = drain (irqEval u) := by
  unfold endWrite inlineDrain
  simp [hkick, hinline]

/-- DRAIN where it is enabled (R204, R211). -/
theorem exec_drain {s : State} (h : s.corbKick = true) : exec .drain s = .next (drain s) := by
  rw [exec_eq_runForm]
  exact if_pos h

/-- Settles O14: IRQ.EVAL is one drive of the wire, and the inline drain is DRAIN on the state it leaves. -/
theorem endOfWrite : Obligations.EndOfWrite := by
  intro u
  refine ⟨irqEval_eq u, endWrite_of_no_drain, fun hkick hinline => ?_⟩
  rw [endWrite_of_drain hkick hinline]
  exact exec_drain (by rwa [irqEval_corbKick])

/-! ### The value handed to a handler (R105, R136) -/

/-- Bit `k` of the lanes `lo .. hi` (R105). -/
theorem getLsbD_lane {lo hi k : Nat} (hk : k < 32) (hle : lo ≤ hi) :
    (lane lo hi).getLsbD k = decide (8 * lo ≤ k ∧ k < 8 * (hi + 1)) := by
  unfold lane
  rw [BitVec.getLsbD_ofNat, Nat.testBit_mul_two_pow, Nat.testBit_two_pow_sub_one, decide_eq_true hk, Bool.true_and,
    ← Bool.decide_and]
  congr 1
  apply propext
  omega

/-- Bit `k` of the merged value: from the transaction where the piece covers it, else from the register (R136). -/
theorem getLsbD_merged (x v : Word) (r : Option Reg) {lo hi k : Nat} (tlo : Nat) (hk : k < 32) (hle : lo ≤ hi) :
    (merged x v ⟨r, lo, hi, tlo⟩).getLsbD k =
      if 8 * lo ≤ k ∧ k < 8 * (hi + 1) then v.getLsbD (8 * tlo + (k - 8 * lo)) else x.getLsbD k := by
  unfold merged laneValue
  rw [BitVec.getLsbD_or, BitVec.getLsbD_and, BitVec.getLsbD_not, getLsbD_lane hk hle, BitVec.getLsbD_ofNat,
    Nat.testBit_mul_two_pow, Nat.testBit_mod_two_pow, Nat.testBit_div_two_pow]
  by_cases hcov : 8 * lo ≤ k ∧ k < 8 * (hi + 1)
  · have hin : k - 8 * lo < 8 * (hi - lo + 1) := by omega
    simp [hcov, hk, hin, BitVec.getLsbD, Nat.add_comm]
  · have hout : 8 * lo ≤ k → 8 * (hi - lo + 1) ≤ k - 8 * lo := by omega
    simpa [hcov, hk] using fun hlo hlt => absurd hlt (Nat.not_lt.mpr (hout hlo))

/-- A write is a bus write at its offset (R104). -/
theorem exec_writesAt {i : Instr} {off : Nat} {w : Width} {v : Word} (h : WritesAt i off w v) (s : State) :
    exec i s = .next (hostWrite off w v s) := by
  rcases h with ⟨u, lo, hform, rfl⟩ | ⟨o, hform, rfl⟩
  · exact exec_wr hform s
  · rw [exec_eq_runForm, hform]
    rfl

/-- A write inside one register is one call of its handler, up to the counters (R135, R159). -/
theorem exec_rowWrite {i : Instr} {s : State} {r : Reg} {val : Word} (h : RowWrite i s r val) :
    ∃ c, exec i s = .next (endWrite (writeHandler r val { s with counts := c })) := by
  obtain ⟨hlet, u, lo, w, v, hform, rfl, hin, rfl⟩ := h
  refine ⟨(noteReserved u.register (laneValue v ⟨some u.register, lo.val, lo.val + w.bytes - 1, 0⟩) s).counts, ?_⟩
  rw [exec_wr hform, hostWrite_inside hin, writePiece_reg hlet, ← noteReserved_eq]
  rfl

/-! ### Read-only registers and plain stores -/

/-- The registers whose writes are discarded (R139). -/
theorem writeHandler_readOnly {r : Reg}
    (h : r ∈ [Reg.glob .gcap, .glob .vmin, .glob .vmaj, .glob .outpay, .glob .inpay, .glob .intsts, .glob .walclk] ∨
      ∃ n, r = .str .lpib n ∨ r = .str .fifos n) (val : Word) (s : State) : writeHandler r val s = s := by
  rcases h with h | ⟨n, rfl | rfl⟩
  · simp only [List.mem_cons, List.not_mem_nil, or_false] at h
    obtain rfl | rfl | rfl | rfl | rfl | rfl | rfl := h <;> rfl
  · rfl
  · rfl

/-- Settles O18: the handler of a read-only register leaves the state it is given. -/
theorem readOnlyWrite : Obligations.ReadOnlyWrite := by
  intro i s r val hwrite hr
  obtain ⟨c, hexec⟩ := exec_rowWrite hwrite
  exact ⟨c, by rw [hexec, writeHandler_readOnly hr]⟩

/-- Settles O19: the handler of each of the five registers is W_PLAIN. -/
theorem plainWrite : Obligations.PlainWrite := by
  intro i s r val hwrite hr
  obtain ⟨c, hexec⟩ := exec_rowWrite hwrite
  refine ⟨c, hexec.trans ?_⟩
  simp only [List.mem_cons, List.not_mem_nil, or_false] at hr
  obtain rfl | rfl | rfl | rfl | rfl := hr <;> rfl

/-! ### Write-1-to-clear (R140) -/

/-- The registers whose flags are cleared by writing 1, each with its flags (R140, R160, R203). -/
theorem writeHandler_clearing {r : Reg} {mask : Word}
    (h : (r, mask) ∈ [(Reg.glob .gsts, (0x0002 : Word)), (.glob .corbsts, 0x01), (.glob .statests, 0x7FFF),
      (.glob .rirbsts, 0x05)]) (val : Word) (s : State) :
    writeHandler r val s = s.setReg r (s.reg r &&& ~~~(val &&& mask)) := by
  simp only [List.mem_cons, List.not_mem_nil, or_false, Prod.mk.injEq] at h
  obtain ⟨rfl, rfl⟩ | ⟨rfl, rfl⟩ | ⟨rfl, rfl⟩ | ⟨rfl, rfl⟩ := h <;> rfl

/-- A word without a bit outside a mask is its part under the mask. -/
theorem and_of_outside_eq_zero {x m : Word} (h : x &&& ~~~m = 0) : x &&& m = x := by
  calc x &&& m = x &&& m ||| x &&& ~~~m := by rw [h]; exact BitVec.or_zero.symm
    _ = x &&& (m ||| ~~~m) := BitVec.and_or_distrib_left.symm
    _ = x := by rw [BitVec.or_not_self, BitVec.and_allOnes]

/-- A 1-byte write of flags that fill their mask: the byte it does not cover is written with its own flags, and these are
cleared (R371). -/
theorem clear_merged_byte {x m : Word} (hx : x &&& ~~~m = 0) (v : Word) (r : Option Reg) (b : Nat) :
    x &&& ~~~(merged x v ⟨r, b, b, 0⟩ &&& m) = x &&& lane b b &&& ~~~(v <<< (8 * b)) := by
  apply BitVec.eq_of_getLsbD_eq
  intro k hk
  have hbit : x.getLsbD k = true → m.getLsbD k = true := by
    have := congrArg (fun y : Word => y.getLsbD k) hx
    simpa [hk] using this
  simp only [BitVec.getLsbD_and, BitVec.getLsbD_not, BitVec.getLsbD_shiftLeft, getLsbD_lane hk (Nat.le_refl b),
    getLsbD_merged x v r 0 hk (Nat.le_refl b), hk, decide_true, Bool.true_and]
  by_cases hcov : 8 * b ≤ k ∧ k < 8 * (b + 1)
  · rw [if_pos hcov, decide_eq_true hcov, decide_eq_false (Nat.not_lt.mpr hcov.1), Nat.mul_zero, Nat.zero_add]
    cases hxk : x.getLsbD k
    · rfl
    · simp [hbit hxk]
  · rw [if_neg hcov, decide_eq_false hcov]
    cases hxk : x.getLsbD k
    · rfl
    · simp [hbit hxk]

/-- A 1-byte write of STATESTS out of reset clears the written flags of its byte, and all of the other byte's (R371). -/
theorem statests_byteWrite {i : Instr} {s t : State} {v : Word} {b : Fin 4} (hb : b.val < 2)
    (hform : i.form = .wr (.reg (.glob .statests)) b .w1 v) (hcrst : s.regs.crst = true)
    (hflags : s.reg (.glob .statests) &&& ~~~0x7FFF = 0) (hexec : exec i s = .next t) :
    t.reg (.glob .statests) = s.reg (.glob .statests) &&& lane b b &&& ~~~(v <<< (8 * b.val)) := by
  have hwrite : RowWrite i s (.glob .statests) (merged (s.reg (.glob .statests)) v ⟨some (.glob .statests), b, b, 0⟩) :=
    ⟨.inl hcrst, _, b, .w1, v, hform, rfl, hb, rfl⟩
  obtain ⟨c, hnext⟩ := exec_rowWrite hwrite
  obtain rfl := Host.Outcome.next.inj (hexec.symm.trans hnext)
  have hfull : s.reg (.glob .statests) &&& (Reg.glob .statests).fullMask = s.reg (.glob .statests) := by
    rw [← and_of_outside_eq_zero hflags]
    exact and_of_and_eq rfl
  rw [State.reg_eq, endWrite_rd (by decide) (by decide) (by decide), writeHandler_clearing (mask := 0x7FFF) (by simp),
    State.setReg_regs, RegFile.rd_put_same, ← clear_merged_byte hflags v (some (.glob .statests)) b.val,
    BitVec.and_assoc, BitVec.and_comm _ (Reg.fullMask _), ← BitVec.and_assoc]
  exact congrArg (· &&& _) hfull

/-- Settles O25: the four handlers clear the flags written as 1; a 1-byte write hands the flags of the other byte to the
handler as they stand. -/
theorem clearingWrites : Obligations.ClearingWrites := by
  refine ⟨fun i s r val mask hwrite hmask => ?_, fun s t v hcrst hflags => ⟨fun hexec => ?_, fun hexec => ?_⟩⟩
  · obtain ⟨c, hexec⟩ := exec_rowWrite hwrite
    exact ⟨c, by rw [hexec, writeHandler_clearing hmask]; rfl⟩
  · have hbyte := statests_byteWrite (b := 0) (by decide) rfl hcrst hflags hexec
    rwa [Fin.val_zero, Nat.mul_zero, BitVec.shiftLeft_zero] at hbyte
  · exact statests_byteWrite (b := 1) (by decide) rfl hcrst hflags hexec

end Sys2Proof.Machine
end

section
/-! What a write counts (10_state.md R63, 40_mmio_dispatch.md R134, R135, 60_exceptions.md R321): no handler counts
unmapped bytes or reserved bits, and neither does the end of a write; the pieces of a transaction show its unmapped
bytes. -/

namespace Sys2Proof.Machine

/-- From `s` to `t` neither unmapped bytes nor reserved bits were counted. -/
structure SameTally (s t : State) : Prop where
  unmapped : t.counts.unmappedWrite = s.counts.unmappedWrite
  reserved : t.counts.reservedBits = s.counts.reservedBits

theorem SameTally.refl (s : State) : SameTally s s := ⟨rfl, rfl⟩

theorem SameTally.trans {s t u : State} (h : SameTally s t) (k : SameTally t u) : SameTally s u :=
  ⟨k.unmapped.trans h.unmapped, k.reserved.trans h.reserved⟩

theorem sameTally_of_counts {s t : State} (h : t.counts = s.counts) : SameTally s t := ⟨by rw [h], by rw [h]⟩

/-! ### The stream operations -/

theorem sameTally_raise (c : ErrorClass) (s : State) : SameTally s (s.raise c) := ⟨rfl, rfl⟩

theorem sameTally_raiseTimes (c : ErrorClass) (k : Nat) : ∀ s : State, SameTally s (s.raiseTimes c k) := by
  induction k with
  | zero => exact SameTally.refl
  | succ k ih => exact fun s => (sameTally_raise c s).trans (ih (s.raise c))

theorem sameTally_sdDisable (n : Stream) (s : State) : SameTally s (sdDisable n s) := by
  unfold sdDisable
  dsimp only
  split
  · split
    · exact ⟨rfl, rfl⟩
    · exact ⟨rfl, rfl⟩
  · exact SameTally.refl s

/-- A reset of a stream counts nothing (R286). -/
theorem sdReset_counts (n : Stream) (s : State) : (sdReset n s).counts = s.counts := rfl

theorem sameTally_disableReset (n : Stream) (s : State) : SameTally s (sdReset n (sdDisable n s)) :=
  (sameTally_sdDisable n s).trans (sameTally_of_counts (sdReset_counts n _))

theorem askSink_counts (n : Stream) (f : Fmt) (s : State) : (askSink n f s).2.counts = s.counts := by
  simp [askSink]

theorem sameTally_armStream (n : Stream) (f : Fmt) (s : State) : SameTally s (armStream n f s) := by
  have hask := sameTally_of_counts (askSink_counts n f s)
  refine hask.trans ?_
  unfold armStream noteBackend
  dsimp only
  split
  · exact ⟨rfl, rfl⟩
  · exact ⟨rfl, rfl⟩

theorem sameTally_startLoaded (n : Stream) (s : State) : SameTally s (startLoaded n s) := by
  unfold startLoaded
  split
  · exact ⟨rfl, rfl⟩
  · exact sameTally_armStream n _ s

theorem sameTally_sdStart (n : Stream) (s : State) : SameTally s (sdStart n s) := by
  refine (sameTally_of_counts (startPosition_counts n s)).trans ?_
  unfold sdStart startFetch
  split
  · exact ⟨rfl, rfl⟩
  · next bytes _ =>
    have hload : SameTally (startPosition s n) (loadBdl n bytes (startPosition s n)) :=
      (sameTally_raiseTimes _ _ _).trans ⟨rfl, rfl⟩
    exact hload.trans (sameTally_startLoaded n _)

/-! ### The handlers -/

theorem sameTally_ctrlReset (s : State) : SameTally s (ctrlReset s) := by
  have hstreams (l : List Stream) : ∀ s, SameTally s (l.foldl (fun s n => sdReset n (sdDisable n s)) s) := by
    induction l with
    | nil => exact SameTally.refl
    | cons n rest ih => exact fun s => (sameTally_disableReset n s).trans (ih _)
  have hall := hstreams allStreams s
  unfold ctrlReset
  generalize allStreams.foldl (fun s n => sdReset n (sdDisable n s)) s = u at hall ⊢
  exact hall.trans ⟨rfl, rfl⟩

theorem sameTally_kickIfRunning (s : State) : SameTally s (kickIfRunning s) := by
  rw [kickIfRunning_eq]
  exact ⟨rfl, rfl⟩

theorem sameTally_wGctl (val : Word) (s : State) : SameTally s (wGctl val s) := by
  unfold wGctl
  dsimp only
  split
  · split
    · exact ⟨rfl, rfl⟩
    · exact ⟨rfl, rfl⟩
  · split
    · exact sameTally_ctrlReset s
    · exact SameTally.refl s

theorem sameTally_wCorbwp (val : Word) (s : State) : SameTally s (wCorbwp val s) := by
  unfold wCorbwp
  dsimp only
  refine SameTally.trans ?_ (sameTally_kickIfRunning _)
  split
  · exact ⟨rfl, rfl⟩
  · exact ⟨rfl, rfl⟩

theorem sameTally_wCorbrp (val : Word) (s : State) : SameTally s (wCorbrp val s) := by
  unfold wCorbrp
  split
  · split
    · exact ⟨rfl, rfl⟩
    · exact ⟨rfl, rfl⟩
  · split
    · have hkick := sameTally_kickIfRunning (s.setReg (.glob .corbrp) (s.reg (.glob .corbrp) &&& 0x00FF))
      exact ⟨hkick.unmapped, hkick.reserved⟩
    · exact SameTally.refl s

theorem sameTally_wCorbctl (val : Word) (s : State) : SameTally s (wCorbctl val s) := by
  rw [wCorbctl_eq]
  exact ⟨rfl, rfl⟩

theorem sameTally_wCorbsize (val : Word) (s : State) : SameTally s (wCorbsize val s) := by
  unfold wCorbsize
  split
  · exact ⟨rfl, rfl⟩
  · split
    · exact ⟨rfl, rfl⟩
    · exact ⟨rfl, rfl⟩

theorem sameTally_wRirbwp (val : Word) (s : State) : SameTally s (wRirbwp val s) := by
  unfold wRirbwp
  split
  · split
    · exact ⟨rfl, rfl⟩
    · exact ⟨rfl, rfl⟩
  · exact SameTally.refl s

theorem sameTally_wRirbsize (val : Word) (s : State) : SameTally s (wRirbsize val s) := by
  unfold wRirbsize
  split
  · exact ⟨rfl, rfl⟩
  · split
    · exact ⟨rfl, rfl⟩
    · exact ⟨rfl, rfl⟩

theorem sameTally_holdStreamReset (n : Stream) (s : State) : SameTally s (holdStreamReset n s) := by
  have hreset : SameTally s (if s.regs.srst n then s else sdReset n (sdDisable n s)) := by
    split
    · exact SameTally.refl s
    · exact sameTally_disableReset n s
  unfold holdStreamReset
  dsimp only
  generalize (if s.regs.srst n = true then s else sdReset n (sdDisable n s)) = u at hreset ⊢
  exact hreset.trans ⟨rfl, rfl⟩

theorem sameTally_wSdctl (n : Stream) (val : Word) (s : State) : SameTally s (wSdctl n val s) := by
  have hstore : SameTally s (storeSdctl n (val &&& 0xFF001F) s) := ⟨rfl, rfl⟩
  rcases wSdctl_cases n val s with heq | ⟨_, ⟨_, _, heq⟩ | ⟨_, _, heq⟩ | ⟨_, heq⟩⟩
  · exact heq ▸ sameTally_holdStreamReset n s
  · exact heq ▸ hstore.trans (sameTally_sdStart n _)
  · exact heq ▸ hstore.trans (sameTally_sdDisable n _)
  · exact heq ▸ hstore

theorem sameTally_wSdguard (n : Stream) (r : Reg) (val : Word) (s : State) : SameTally s (wSdguard n r val s) := by
  unfold wSdguard
  split
  · exact ⟨rfl, rfl⟩
  · exact ⟨rfl, rfl⟩

/-- No handler counts unmapped bytes or reserved bits: the dispatch does (R134, R135). -/
theorem sameTally_writeHandler (r : Reg) (val : Word) (s : State) : SameTally s (writeHandler r val s) := by
  unfold writeHandler
  split
  · exact ⟨rfl, rfl⟩
  · exact SameTally.refl s
  · exact ⟨rfl, rfl⟩
  · exact sameTally_wGctl val s
  · exact ⟨rfl, rfl⟩
  · exact ⟨rfl, rfl⟩
  · exact ⟨rfl, rfl⟩
  · exact sameTally_wCorbwp val s
  · exact sameTally_wCorbrp val s
  · exact sameTally_wCorbctl val s
  · exact sameTally_wCorbsize val s
  · exact sameTally_wRirbwp val s
  · exact ⟨rfl, rfl⟩
  · exact ⟨rfl, rfl⟩
  · exact sameTally_wRirbsize val s
  · exact sameTally_wSdctl _ val s
  · rw [wSdsts_eq]
    exact ⟨rfl, rfl⟩
  · exact sameTally_wSdguard _ r val s

/-! ### The end of a write -/

/-- A DRAIN raises no class and counts nothing (R204). -/
theorem drain_counts (s : State) : (drain s).counts = s.counts := by
  rw [drain_eq]
  split
  · rfl
  · rw [irqEval_counts]
    exact (ringOnly_drainBody _).counts

theorem endWrite_counts (s : State) : (endWrite s).counts = s.counts := by
  unfold endWrite inlineDrain
  split
  · rw [drain_counts, irqEval_counts]
  · rw [irqEval_counts]

/-! ### Reserved bits (R135, R321 case 1) -/

theorem noteReserved_reservedBits (r : Reg) (written : Word) (s : State) :
    (noteReserved r written s).counts.reservedBits =
      s.counts.reservedBits + if written &&& ~~~r.wmask ≠ 0 then 1 else 0 := by
  unfold noteReserved
  split
  · rfl
  · rfl

/-- Settles O17: a write inside one register is one piece, whose reserved bits are counted before its handler runs, and
nothing after that counts them again. -/
theorem reservedBits : Obligations.ReservedBits := by
  intro i u lo w v s t hform hin hlet hexec
  obtain rfl := Host.Outcome.next.inj (hexec.symm.trans (exec_wr hform s))
  have hlast : lo.val + w.bytes - 1 - lo.val + 1 = w.bytes := by
    have hpos : 0 < w.bytes := by cases w <;> decide
    omega
  have hlane : laneValue v ⟨some u.register, lo.val, lo.val + w.bytes - 1, 0⟩ =
      BitVec.ofNat 32 (v.toNat % 2 ^ (8 * w.bytes) * 2 ^ (8 * lo.val)) := by
    unfold laneValue
    dsimp only
    rw [hlast, Nat.mul_zero, Nat.pow_zero, Nat.div_one]
  rw [hostWrite_inside hin, endWrite_counts, writePiece_reg hlet, (sameTally_writeHandler ..).reserved,
    noteReserved_reservedBits, hlane]

/-! ### Unmapped bytes (R134, R321 case 7) -/

theorem any_joinPiece (f : Option Reg → Bool) (p : Piece) (l : List Piece) :
    (joinPiece p l).any (fun q => f q.reg) = (f p.reg || l.any fun q => f q.reg) := by
  cases l with
  | nil => rfl
  | cons q rest =>
    change (if p.reg = q.reg then { p with hi := q.hi } :: rest else p :: q :: rest).any (fun q => f q.reg) = _
    split
    · next h => simp [h]
    · rfl

/-- A transaction has an unmapped piece where it has an unmapped byte (R136). -/
theorem any_unmapped_piecesFrom (off k : Nat) : ∀ i, (piecesFrom off i k).any (fun p => p.reg.isNone) = true ↔
    ∃ j < k, decodeByte (off + (i + j)) = none := by
  induction k with
  | zero => simp [piecesFrom]
  | succ k ih =>
    intro i
    have hrest (j : Nat) : i + 1 + j = i + (j + 1) := by omega
    unfold piecesFrom
    rw [any_joinPiece, bytePiece_reg, Bool.or_eq_true, ih, Nat.exists_lt_succ_left]
    simp only [hrest, Option.isNone_map, Option.isNone_iff_eq_none, Nat.add_zero]

theorem any_unmapped_pieces (off : Nat) (w : Width) :
    (pieces off w).any (fun p => p.reg.isNone) = true ↔ ∃ j < w.bytes, decodeByte (off + j) = none := by
  have h := any_unmapped_piecesFrom off w.bytes 0
  simp only [Nat.zero_add] at h
  exact h

/-- Where no byte is mapped, no piece reaches a handler. -/
theorem writePieces_unmapped (v : Word) {ps : List Piece} (h : ∀ p ∈ ps, p.reg = none) (s : State) :
    writePieces v ps s = s := by
  induction ps with
  | nil => rfl
  | cons p ps ih =>
    obtain ⟨hp, hrest⟩ := List.forall_mem_cons.mp h
    have hpiece : writePiece v s p = s := by
      unfold writePiece
      rw [hp]
    rw [writePieces_cons, hpiece, ih hrest]

theorem writePiece_unmappedWrite (v : Word) (s : State) (p : Piece) :
    (writePiece v s p).counts.unmappedWrite = s.counts.unmappedWrite := by
  unfold writePiece
  split
  · rfl
  · split
    · rfl
    · rw [(sameTally_writeHandler ..).unmapped]
      unfold noteReserved
      split
      · rfl
      · rfl

/-- The count of writes with unmapped bytes after a write: one more if it has one, whatever its handlers do (R134). -/
theorem hostWrite_unmappedWrite (off : Nat) (w : Width) (v : Word) (s : State) :
    (hostWrite off w v s).counts.unmappedWrite =
      s.counts.unmappedWrite + if (pieces off w).any (fun p => p.reg.isNone) then 1 else 0 := by
  have hpieces : (writePieces v (pieces off w) s).counts.unmappedWrite = s.counts.unmappedWrite :=
    writePieces_keeps (P := fun t => t.counts.unmappedWrite = s.counts.unmappedWrite)
      (fun v t p h => (writePiece_unmappedWrite v t p).trans h) v _ s rfl
  unfold hostWrite
  rw [endWrite_counts, ← hpieces]
  unfold noteUnmapped
  split
  · rfl
  · rfl

/-- A write of which no byte is mapped: one count, and the end of a write (R134). -/
theorem hostWrite_unmapped {off : Nat} {w : Width} (h : ∀ j < w.bytes, decodeByte (off + j) = none) (v : Word)
    (s : State) : hostWrite off w v s = endWrite (s.raise .guestProtocolViolation).countUnmappedWrite := by
  have hnone : ∀ p ∈ pieces off w, p.reg = none := by
    intro p hp
    obtain ⟨j, _, hlt, hreg⟩ := reg_of_mem_piecesFrom w.bytes 0 hp
    rw [hreg, h j (by omega)]
    rfl
  have hpos : 0 < w.bytes := by cases w <;> decide
  unfold hostWrite noteUnmapped
  rw [writePieces_unmapped v hnone, if_pos ((any_unmapped_pieces off w).mpr ⟨0, hpos, h 0 hpos⟩)]

/-- Settles O16: the pieces show the unmapped bytes, which are counted once after the handlers; without a mapped byte no
handler runs. -/
theorem unmappedWrite : Obligations.UnmappedWrite := by
  intro i off w v s hwrite
  have hexec := exec_writesAt hwrite s
  refine ⟨fun hnone => ?_, fun t hnext => ?_⟩
  · rw [hexec, hostWrite_unmapped hnone]
    rfl
  · obtain rfl := Host.Outcome.next.inj (hnext.symm.trans hexec)
    rw [hostWrite_unmappedWrite]
    simp only [any_unmapped_pieces]

end Sys2Proof.Machine
end

section
/-! A write that spans registers of the rings (40_mmio_dispatch.md R136, R144; 42_corb_rirb.md R193 to R203): a handler
sees only the writable bits of its value, so that a piece that covers a whole register hands it the transaction's bytes;
the handlers then run in the order of the pieces. -/

namespace Sys2Proof.Machine

/-! ### A handler sees the writable bits only (R135) -/

theorem wPlain_masked (r : Reg) (val : Word) (s : State) : wPlain r (val &&& r.wmask) s = wPlain r val s := by
  unfold wPlain
  rw [and_and_self]

theorem wW1c_masked (r : Reg) (val : Word) (s : State) : wW1c r (val &&& r.wmask) s = wW1c r val s := by
  unfold wW1c w1c
  rw [and_and_self]

theorem wSdguard_masked (n : Stream) (r : Reg) (val : Word) (s : State) :
    wSdguard n r (val &&& r.wmask) s = wSdguard n r val s := by
  unfold wSdguard
  rw [wPlain_masked]

theorem wGctl_masked (val : Word) (s : State) : wGctl (val &&& 0x00000103) s = wGctl val s := by
  unfold wGctl
  rw [and_and_self]

theorem wCorbwp_masked (val : Word) (s : State) : wCorbwp (val &&& 0xFF) s = wCorbwp val s := by
  unfold wCorbwp
  rw [and_and_self]

theorem wCorbrp_masked (val : Word) (s : State) : wCorbrp (val &&& 0x8000) s = wCorbrp val s := by
  unfold wCorbrp
  rw [getLsbD_masked val 0x8000 15 rfl]

theorem wCorbctl_masked (val : Word) (s : State) : wCorbctl (val &&& 0x03) s = wCorbctl val s := by
  unfold wCorbctl
  rw [and_and_self]

theorem wCorbsize_masked (val : Word) (s : State) : wCorbsize (val &&& 0x03) s = wCorbsize val s := by
  unfold wCorbsize
  rw [and_and_self]

theorem wRirbwp_masked (val : Word) (s : State) : wRirbwp (val &&& 0x8000) s = wRirbwp val s := by
  unfold wRirbwp
  rw [getLsbD_masked val 0x8000 15 rfl]

theorem wRirbsize_masked (val : Word) (s : State) : wRirbsize (val &&& 0x03) s = wRirbsize val s := by
  unfold wRirbsize
  rw [and_and_self]

theorem wSdctl_masked (n : Stream) (val : Word) (s : State) : wSdctl n (val &&& 0xFF001F) s = wSdctl n val s := by
  unfold wSdctl
  rw [and_and_self]

theorem wSdsts_masked (n : Stream) (val : Word) (s : State) : wSdsts n (val &&& 0x1C) s = wSdsts n val s := by
  rw [wSdsts_eq, wSdsts_eq, and_and_self, getLsbD_masked val 0x1C 2 rfl]

/-- No handler looks at a bit outside its register's writable mask. -/
theorem writeHandler_masked (r : Reg) (val : Word) (s : State) :
    writeHandler r (val &&& r.wmask) s = writeHandler r val s := by
  cases r with
  | glob g =>
    cases g with
    | gcap | vmin | vmaj | outpay | inpay | intsts | walclk => rfl
    | corblbase | corbubase | rirblbase | rirbubase | rintcnt => exact wPlain_masked _ val s
    | gsts | corbsts => exact wW1c_masked _ val s
    | gctl => exact wGctl_masked val s
    | wakeen => exact congrArg (s.setReg (.glob .wakeen)) (and_and_self val 0x7FFF)
    | intctl => exact congrArg (s.setReg (.glob .intctl)) (and_and_self val _)
    | rirbctl => exact congrArg (s.setReg (.glob .rirbctl)) (and_and_self val 0x07)
    | statests => exact wW1c_masked (.glob .statests) val s
    | rirbsts => exact wW1c_masked (.glob .rirbsts) val s
    | corbwp => exact wCorbwp_masked val s
    | corbrp => exact wCorbrp_masked val s
    | corbctl => exact wCorbctl_masked val s
    | corbsize => exact wCorbsize_masked val s
    | rirbwp => exact wRirbwp_masked val s
    | rirbsize => exact wRirbsize_masked val s
  | str k n =>
    cases k with
    | ctl => exact wSdctl_masked n val s
    | sts => exact wSdsts_masked n val s
    | lpib | fifos => rfl
    | cbl | lvi | fifow | fmt | bdpl | bdpu => exact wSdguard_masked n _ val s

/-! ### Pieces that cover a whole register -/

/-- The piece that covers a whole register with the transaction's bytes from byte `tlo` on (R136). -/
def wholePiece (r : Reg) (tlo : Nat) : Piece := ⟨some r, 0, r.width - 1, tlo⟩

/-- Out of reset a piece that covers its register hands it the transaction's bytes (R135, R136). -/
theorem writePiece_whole (v : Word) {s : State} (hcrst : s.regs.crst = true) (r : Reg) (tlo : Nat) :
    ∃ c, writePiece v s (wholePiece r tlo) = writeHandler r (v >>> (8 * tlo)) { s with counts := c } := by
  obtain ⟨c, _, heq⟩ := writePiece_handler v s r 0 (r.width - 1) tlo hcrst
  have hbits : ∀ k < 32, r.wmask.getLsbD k = true → k < 8 * (r.width - 1 + 1) := by
    intro k _ hk
    have hlt := lt_width_of_getLsbD (wmask_and_fullMask r) hk
    omega
  refine ⟨c, heq.trans ?_⟩
  rw [← writeHandler_masked, merged_low _ v (some r) (r.width - 1) tlo r.wmask hbits, writeHandler_masked]

/-- Only the handler of GCTL changes CRST. -/
theorem crst_writeHandler {r : Reg} (hr : r ≠ .glob .gctl) (val : Word) (s : State) :
    (writeHandler r val s).regs.crst = s.regs.crst := by
  cases r with
  | glob g => exact (noStream_writeHandler (by simpa using hr) val s).crst
  | str k n =>
    unfold RegFile.crst
    rw [(onlyStream_writeHandler k n val s).glob .gctl]

/-! ### The handlers without their counters -/

/-- The state with other diagnostic counters. -/
def State.recount (s : State) (c : Counts) : State := { s with counts := c }

theorem State.recount_ite (p : Prop) [Decidable p] (s t : State) (c : Counts) :
    (if p then s else t).recount c = if p then s.recount c else t.recount c := apply_ite (State.recount · c) p s t

/-- The handler of `r` does `f` with the value given, up to the counters, and `f` does not look at them. -/
structure Uncounted (r : Reg) (val : Word) (f : State → State) : Prop where
  handler : ∀ s, ∃ c, writeHandler r val s = (f s).recount c
  recount : ∀ s c, f (s.recount c) = (f s).recount c

/-- A handler that neither counts nor looks at the counters. -/
theorem uncounted_of_eq {r : Reg} {val : Word} {f : State → State} (h : ∀ s, writeHandler r val s = f s)
    (hf : ∀ s c, f (s.recount c) = (f s).recount c) : Uncounted r val f :=
  ⟨fun s => ⟨(f s).counts, h s⟩, hf⟩

theorem uncounted_plain {r : Reg} (h : r.desc.wr = .plain) (val : Word) : Uncounted r val (wPlain r val) :=
  uncounted_of_eq (fun _ => by unfold writeHandler; rw [h]) fun _ _ => rfl

theorem uncounted_clearing {r : Reg} {mask : Word}
    (h : (r, mask) ∈ [(Reg.glob .gsts, (0x0002 : Word)), (.glob .corbsts, 0x01), (.glob .statests, 0x7FFF),
      (.glob .rirbsts, 0x05)]) (val : Word) :
    Uncounted r val fun s => s.setReg r (s.reg r &&& ~~~(val &&& mask)) :=
  uncounted_of_eq (writeHandler_clearing h val) fun _ _ => rfl

theorem uncounted_wakeen (val : Word) : Uncounted (.glob .wakeen) val fun s => s.setReg (.glob .wakeen) (val &&& 0x7FFF) :=
  uncounted_of_eq (fun _ => rfl) fun _ _ => rfl

theorem uncounted_rirbctl (val : Word) : Uncounted (.glob .rirbctl) val fun s => s.setReg (.glob .rirbctl) (val &&& 0x07) :=
  uncounted_of_eq (fun _ => rfl) fun _ _ => rfl

/-- What a write of CORBCTL does (R193). -/
def corbctlWritten (val : Word) (s : State) : State :=
  { s with corbKick := s.corbKick || val.getLsbD 1 }.setReg (.glob .corbctl) (val &&& 0x03)

theorem uncounted_corbctl (val : Word) : Uncounted (.glob .corbctl) val (corbctlWritten val) :=
  uncounted_of_eq (wCorbctl_eq val) fun _ _ => rfl

/-- What a write of CORBWP does but for the counters (R194). -/
def corbwpWritten (val : Word) (s : State) : State :=
  { s with corbKick := s.corbKick || s.regs.corbRun }.setReg (.glob .corbwp)
    (BitVec.ofNat 32 ((val &&& 0xFF).toNat % s.regs.corbCap))

theorem uncounted_corbwp (val : Word) : Uncounted (.glob .corbwp) val (corbwpWritten val) :=
  ⟨wCorbwp_eq val, fun _ _ => rfl⟩

/-- What a write of CORBRP does but for the counters (R197). -/
def corbrpWritten (val : Word) (s : State) : State :=
  if val.getLsbD 15 then
    if s.regs.corbRun then s else { s with corbBuf := Vector.replicate 256 0 }.setReg (.glob .corbrp) 0x8000
  else if s.regs.corbRst then
    { s with corbKick := s.corbKick || s.regs.corbRun }.setReg (.glob .corbrp) (s.reg (.glob .corbrp) &&& 0x00FF)
  else s

/-- The same, in a state that has the kick already if the engine runs. -/
theorem corbrpWritten_of_kicked {u : State} {run rst : Bool} {pointer : Word} (hrun : u.regs.corbRun = run)
    (hrst : u.regs.corbRst = rst) (hpointer : u.reg (.glob .corbrp) = pointer) (hkick : (u.corbKick || run) = u.corbKick)
    (val : Word) :
    corbrpWritten val u =
      if val.getLsbD 15 then
        if run then u else { u with corbBuf := Vector.replicate 256 0 }.setReg (.glob .corbrp) 0x8000
      else if rst then u.setReg (.glob .corbrp) (pointer &&& 0x00FF)
      else u := by
  subst hrun hrst hpointer
  unfold corbrpWritten
  rw [hkick]

theorem uncounted_corbrp (val : Word) : Uncounted (.glob .corbrp) val (corbrpWritten val) := by
  refine ⟨fun s => ?_, fun s c => ?_⟩
  · obtain ⟨c, heq⟩ := wCorbrp_eq val s
    refine ⟨c, heq.trans ?_⟩
    unfold corbrpWritten
    simp only [State.recount_ite]
    rfl
  · unfold corbrpWritten
    simp only [State.recount_ite]
    rfl

/-- What a write of RIRBWP does but for the counters (R200). -/
def rirbwpWritten (val : Word) (s : State) : State :=
  if val.getLsbD 15 && !s.regs.rirbDmaen then
    { s with rirbBuf := Vector.replicate 256 0, respPending := 0 }.setReg (.glob .rirbwp) 0
  else s

theorem uncounted_rirbwp (val : Word) : Uncounted (.glob .rirbwp) val (rirbwpWritten val) := by
  refine ⟨fun s => ?_, fun s c => ?_⟩
  · obtain ⟨c, heq⟩ := wRirbwp_eq val s
    refine ⟨c, heq.trans ?_⟩
    unfold rirbwpWritten
    rw [State.recount_ite]
    rfl
  · unfold rirbwpWritten
    rw [State.recount_ite]
    rfl

/-- The capacity of a size code (R42, R48). -/
def codeCapacity (code : Word) : Nat := if code = 0 then 2 else if code = 1 then 16 else 256

/-- What a write of CORBSIZE does but for the counters (R199). -/
def corbsizeWritten (val : Word) (s : State) : State :=
  if s.regs.corbRun || decide (val &&& 3 = 3) then s
  else
    ((s.setReg (.glob .corbsize) (0x70 ||| (val &&& 3))).setReg (.glob .corbwp)
      (BitVec.ofNat 32 (s.regs.corbWp % codeCapacity (val &&& 3)))).setReg (.glob .corbrp)
      ((s.reg (.glob .corbrp) &&& 0x8000) ||| BitVec.ofNat 32 (s.regs.corbRp % codeCapacity (val &&& 3)))

theorem uncounted_corbsize (val : Word) : Uncounted (.glob .corbsize) val (corbsizeWritten val) := by
  refine ⟨fun s => ?_, fun s c => ?_⟩
  · obtain ⟨c, heq⟩ := wCorbsize_eq val s
    refine ⟨c, heq.trans ?_⟩
    unfold corbsizeWritten
    rw [State.recount_ite]
    rfl
  · unfold corbsizeWritten
    rw [State.recount_ite]
    rfl

/-- What a write of RIRBSIZE does but for the counters (R201). -/
def rirbsizeWritten (val : Word) (s : State) : State :=
  if s.regs.rirbDmaen || decide (val &&& 3 = 3) then s
  else
    (s.setReg (.glob .rirbsize) (0x70 ||| (val &&& 3))).setReg (.glob .rirbwp)
      (BitVec.ofNat 32 (s.regs.rirbWp % codeCapacity (val &&& 3)))

theorem uncounted_rirbsize (val : Word) : Uncounted (.glob .rirbsize) val (rirbsizeWritten val) := by
  refine ⟨fun s => ?_, fun s c => ?_⟩
  · obtain ⟨c, heq⟩ := wRirbsize_eq val s
    refine ⟨c, heq.trans ?_⟩
    unfold rirbsizeWritten
    rw [State.recount_ite]
    rfl
  · unfold rirbsizeWritten
    rw [State.recount_ite]
    rfl

/-! ### The handlers of a transaction, in order (R135, R144) -/

/-- From `s` to `t` the handlers of the listed registers ran in order, each with the transaction's bytes from its place on
and on the state that the one before it left, up to the counters. -/
def HandlersRun (v : Word) : List (Reg × Nat) → State → State → Prop
  | [], s, t => ∃ c, t = s.recount c
  | (r, tlo) :: rest, s, t => ∃ c, HandlersRun v rest (writeHandler r (v >>> (8 * tlo)) (s.recount c)) t

theorem HandlersRun.of_recount {v : Word} {l : List (Reg × Nat)} {s t : State} {c : Counts}
    (h : HandlersRun v l (s.recount c) t) : HandlersRun v l s t := by
  cases l with
  | nil => exact h
  | cons p rest => exact h

/-- The first handler runs, whatever the counters are. -/
theorem HandlersRun.step {v : Word} {r : Reg} {tlo : Nat} {rest : List (Reg × Nat)} {s t : State} {f : State → State}
    (h : HandlersRun v ((r, tlo) :: rest) s t) (hf : Uncounted r (v >>> (8 * tlo)) f) : HandlersRun v rest (f s) t := by
  obtain ⟨c, hrun⟩ := h
  obtain ⟨c', heq⟩ := hf.handler (s.recount c)
  rw [heq, hf.recount] at hrun
  exact hrun.of_recount.of_recount

/-- Pieces that cover whole registers, and then unmapped ones, run the handlers of these registers. -/
theorem handlersRun_writePieces (v : Word) {rest : List Piece} (hrest : ∀ p ∈ rest, p.reg = none)
    (l : List (Reg × Nat)) (hl : ∀ p ∈ l, p.1 ≠ .glob .gctl) : ∀ s : State, s.regs.crst = true → ∀ c,
    HandlersRun v l s ((writePieces v (l.map (fun p => wholePiece p.1 p.2) ++ rest) s).recount c) := by
  induction l with
  | nil =>
    intro s _ c
    rw [List.map_nil, List.nil_append, writePieces_unmapped v hrest]
    exact ⟨c, rfl⟩
  | cons p l ih =>
    obtain ⟨hp, hl⟩ := List.forall_mem_cons.mp hl
    intro s hcrst c
    obtain ⟨c', heq⟩ := writePiece_whole v hcrst p.1 p.2
    refine ⟨c', ?_⟩
    rw [List.map_cons, List.cons_append, writePieces_cons, heq]
    exact ih hl _ ((crst_writeHandler hp (v >>> (8 * p.2)) (s.recount c')).trans hcrst) c

/-- A write of four bytes from a register on that covers whole registers, of which none is GCTL, and then nothing. -/
theorem exec_span {i : Instr} {s : State} {r : Reg} {v : Word} (hform : i.form = .wr (.reg r) 0 .w4 v)
    (hcrst : s.regs.crst = true) (l : List (Reg × Nat)) (hl : ∀ p ∈ l, p.1 ≠ .glob .gctl) {rest : List Piece}
    (hrest : ∀ p ∈ rest, p.reg = none) (hpieces : pieces r.off .w4 = l.map (fun p => wholePiece p.1 p.2) ++ rest) :
    ∃ t, HandlersRun v l s t ∧ exec i s = .next (endWrite t) := by
  refine ⟨_, handlersRun_writePieces v hrest l hl s hcrst
    (noteUnmapped (pieces r.off .w4) (writePieces v (pieces r.off .w4) s)).counts, ?_⟩
  rw [exec_wr hform, ← hpieces]
  unfold State.recount
  rw [← noteUnmapped_eq]
  rfl

/-! ### The spans (R144) -/

/-- Four bytes at WAKEEN store WAKEEN, then clear the written flags of STATESTS (R160, R162). -/
theorem span_wakeen {s : State} (hcrst : s.regs.crst = true) (v : Word) :
    ∃ c, exec (.wrWAKEEN 0 .w4 v) s = .next (endWrite
      (({ s with counts := c }.setReg (.glob .wakeen) (v &&& 0x7FFF)).setReg (.glob .statests)
        (s.reg (.glob .statests) &&& ~~~((v >>> 16) &&& 0x7FFF)))) := by
  obtain ⟨t, hrun, hexec⟩ := exec_span (i := .wrWAKEEN 0 .w4 v) rfl hcrst
    [(.glob .wakeen, 0), (.glob .statests, 2)] (by decide) (rest := []) (by decide) (by decide +kernel)
  obtain ⟨c, rfl⟩ := (hrun.step (uncounted_wakeen _)).step (uncounted_clearing (mask := 0x7FFF) (by simp) _)
  refine ⟨c, hexec.trans ?_⟩
  have hsts (x : Word) : (s.setReg (.glob .wakeen) x).reg (.glob .statests) = s.reg (.glob .statests) :=
    RegFile.rd_put_of_ne _ (by decide) _
  rw [hsts, Nat.mul_zero, BitVec.ushiftRight_zero]
  rfl

/-- Four bytes at CORBWP store the pointer and kick the engine if it runs, then run CORBRP (R194, R197). -/
theorem span_corbwp {s : State} (hcrst : s.regs.crst = true) (v : Word) :
    ∃ c,
      let u := { s with counts := c, corbKick := s.corbKick || s.regs.corbRun }.setReg (.glob .corbwp)
        (BitVec.ofNat 32 ((v &&& 0xFF).toNat % s.regs.corbCap))
      exec (.wrCORBWP 0 .w4 v) s = .next (endWrite (
        if v.getLsbD 31 then
          if s.regs.corbRun then u
          else { u with corbBuf := Vector.replicate 256 0 }.setReg (.glob .corbrp) 0x8000
        else if s.regs.corbRst then u.setReg (.glob .corbrp) (s.reg (.glob .corbrp) &&& 0x00FF)
        else u)) := by
  obtain ⟨t, hrun, hexec⟩ := exec_span (i := .wrCORBWP 0 .w4 v) rfl hcrst
    [(.glob .corbwp, 0), (.glob .corbrp, 2)] (by decide) (rest := []) (by decide) (by decide +kernel)
  obtain ⟨c, rfl⟩ := (hrun.step (uncounted_corbwp _)).step (uncounted_corbrp _)
  refine ⟨c, hexec.trans ?_⟩
  have hrp : (corbwpWritten v s).reg (.glob .corbrp) = s.reg (.glob .corbrp) := RegFile.rd_put_of_ne _ (by decide) _
  have hkick : ((corbwpWritten v s).corbKick || s.regs.corbRun) = (corbwpWritten v s).corbKick :=
    Bool.or_self_right s.corbKick s.regs.corbRun
  have hbit : (v >>> (8 * 2)).getLsbD 15 = v.getLsbD 31 := BitVec.getLsbD_ushiftRight ..
  rw [Nat.mul_zero, BitVec.ushiftRight_zero, corbrpWritten_of_kicked (u := corbwpWritten v s)
    (rst := s.regs.corbRst) (corbRun_setReg _ (by decide) _) (congrArg (BitVec.getLsbD · 15) hrp) hrp hkick, hbit]
  simp only [State.recount_ite]
  rfl

/-- Four bytes at RIRBWP run RIRBWP, then store RINTCNT (R200, R210). -/
theorem span_rirbwp {s : State} (hcrst : s.regs.crst = true) (v : Word) :
    ∃ c,
      let u := { s with counts := c }
      exec (.wrRIRBWP 0 .w4 v) s = .next (endWrite (
        (if v.getLsbD 15 && !s.regs.rirbDmaen then
          { u with rirbBuf := Vector.replicate 256 0, respPending := 0 }.setReg (.glob .rirbwp) 0
        else u).setReg (.glob .rintcnt) (((v >>> 16) &&& 0x00FF) ||| (s.reg (.glob .rintcnt) &&& ~~~0x00FF)))) := by
  obtain ⟨t, hrun, hexec⟩ := exec_span (i := .wrRIRBWP 0 .w4 v) rfl hcrst
    [(.glob .rirbwp, 0), (.glob .rintcnt, 2)] (by decide) (rest := []) (by decide) (by decide +kernel)
  obtain ⟨c, rfl⟩ := (hrun.step (uncounted_rirbwp _)).step (uncounted_plain rfl _)
  refine ⟨c, hexec.trans ?_⟩
  have hkept : (rirbwpWritten v s).reg (.glob .rintcnt) = s.reg (.glob .rintcnt) := by
    unfold rirbwpWritten
    split
    · exact RegFile.rd_put_of_ne _ (by decide) _
    · rfl
  unfold wPlain
  rw [Nat.mul_zero, BitVec.ushiftRight_zero, hkept]
  unfold rirbwpWritten
  split
  · rfl
  · rfl

/-- The size of CORBSIZE, in a state whose engine's RUN and pointers are known. -/
theorem corbsizeWritten_of {u : State} {f : RegFile} {run : Bool} (hrun : u.regs.corbRun = run)
    (hwp : u.regs.rd (.glob .corbwp) = f.rd (.glob .corbwp)) (hrp : u.regs.rd (.glob .corbrp) = f.rd (.glob .corbrp))
    (val : Word) :
    corbsizeWritten val u =
      if run || decide (val &&& 3 = 3) then u
      else
        ((u.setReg (.glob .corbsize) (0x70 ||| (val &&& 3))).setReg (.glob .corbwp)
          (BitVec.ofNat 32 (f.corbWp % codeCapacity (val &&& 3)))).setReg (.glob .corbrp)
          ((f.rd (.glob .corbrp) &&& 0x8000) ||| BitVec.ofNat 32 (f.corbRp % codeCapacity (val &&& 3))) := by
  unfold corbsizeWritten RegFile.corbWp RegFile.corbRp
  rw [hrun, State.reg_eq, hwp, hrp]

theorem rirbsizeWritten_of {u : State} {f : RegFile} {dmaen : Bool} (hdmaen : u.regs.rirbDmaen = dmaen)
    (hwp : u.regs.rd (.glob .rirbwp) = f.rd (.glob .rirbwp)) (val : Word) :
    rirbsizeWritten val u =
      if dmaen || decide (val &&& 3 = 3) then u
      else
        (u.setReg (.glob .rirbsize) (0x70 ||| (val &&& 3))).setReg (.glob .rirbwp)
          (BitVec.ofNat 32 (f.rirbWp % codeCapacity (val &&& 3))) := by
  unfold rirbsizeWritten RegFile.rirbWp
  rw [hdmaen, hwp]

/-- Bit 1 of a control register, stored under a mask with this bit: RUN and DMAEN as they were written (R193, R202). -/
theorem getLsbD_one_put (f : RegFile) {r : Reg} {mask : Word} (hr : (r.fullMask).getLsbD 1 = true)
    (hmask : mask.getLsbD 1 = true) (v : Word) : ((f.put r (v &&& mask)).rd r).getLsbD 1 = v.getLsbD 1 := by
  rw [RegFile.rd_put_same, getLsbD_masked _ _ 1 hr, getLsbD_masked _ _ 1 hmask]

/-- Four bytes at CORBCTL store RUN, clear the written flag of CORBSTS, and take the size if RUN was stored as 0 and the
code is not the reserved one (R193, R199). -/
theorem span_corbctl {s : State} (hcrst : s.regs.crst = true) (v : Word) :
    let size := (v >>> 16) &&& 3
    ∃ c,
      let u := ({ s with counts := c, corbKick := s.corbKick || v.getLsbD 1 }.setReg (.glob .corbctl)
        (v &&& 0x03)).setReg (.glob .corbsts) (s.reg (.glob .corbsts) &&& ~~~((v >>> 8) &&& 0x01))
      exec (.wrCORBCTL 0 .w4 v) s = .next (endWrite (
        if v.getLsbD 1 || decide (size = 3) then u
        else
          ((u.setReg (.glob .corbsize) (0x70 ||| size)).setReg (.glob .corbwp)
            (BitVec.ofNat 32 (s.regs.corbWp % codeCapacity size))).setReg (.glob .corbrp)
            ((s.reg (.glob .corbrp) &&& 0x8000) ||| BitVec.ofNat 32 (s.regs.corbRp % codeCapacity size)))) := by
  obtain ⟨t, hrun, hexec⟩ := exec_span (i := .wrCORBCTL 0 .w4 v) rfl hcrst
    [(.glob .corbctl, 0), (.glob .corbsts, 1), (.glob .corbsize, 2)] (by decide) (rest := [⟨none, 0, 0, 3⟩]) (by decide)
    (by decide +kernel)
  obtain ⟨c, rfl⟩ := ((hrun.step (uncounted_corbctl _)).step (uncounted_clearing (mask := 0x01) (by simp) _)).step
    (uncounted_corbsize _)
  refine ⟨c, hexec.trans ?_⟩
  have hrd {r : Reg} (hr : r ≠ .glob .corbctl) : (corbctlWritten v s).reg r = s.reg r := RegFile.rd_put_of_ne _ hr _
  have hrd' {r : Reg} (hr : r ≠ .glob .corbctl ∧ r ≠ .glob .corbsts) (x : Word) :
      ((corbctlWritten v s).setReg (.glob .corbsts) x).regs.rd r = s.regs.rd r :=
    (RegFile.rd_put_of_ne _ hr.2 x).trans (hrd hr.1)
  have hrun' (x : Word) : ((corbctlWritten v s).setReg (.glob .corbsts) x).regs.corbRun = v.getLsbD 1 :=
    (corbRun_setReg _ (by decide) x).trans (getLsbD_one_put _ rfl rfl v)
  rw [Nat.mul_zero, BitVec.ushiftRight_zero, hrd (by decide),
    corbsizeWritten_of (f := s.regs) (hrun' _) (hrd' (by decide) _) (hrd' (by decide) _)]
  rw [State.recount_ite]
  rfl

/-- Four bytes at RIRBCTL store DMAEN, clear the written flags of RIRBSTS, and take the size if DMAEN was stored as 0 and
the code is not the reserved one (R201 to R203). -/
theorem span_rirbctl {s : State} (hcrst : s.regs.crst = true) (v : Word) :
    let size := (v >>> 16) &&& 3
    ∃ c,
      let u := ({ s with counts := c }.setReg (.glob .rirbctl) (v &&& 0x07)).setReg (.glob .rirbsts)
        (s.reg (.glob .rirbsts) &&& ~~~((v >>> 8) &&& 0x05))
      exec (.wrRIRBCTL 0 .w4 v) s = .next (endWrite (
        if v.getLsbD 1 || decide (size = 3) then u
        else
          (u.setReg (.glob .rirbsize) (0x70 ||| size)).setReg (.glob .rirbwp)
            (BitVec.ofNat 32 (s.regs.rirbWp % codeCapacity size)))) := by
  obtain ⟨t, hrun, hexec⟩ := exec_span (i := .wrRIRBCTL 0 .w4 v) rfl hcrst
    [(.glob .rirbctl, 0), (.glob .rirbsts, 1), (.glob .rirbsize, 2)] (by decide) (rest := [⟨none, 0, 0, 3⟩]) (by decide)
    (by decide +kernel)
  obtain ⟨c, rfl⟩ := ((hrun.step (uncounted_rirbctl _)).step (uncounted_clearing (mask := 0x05) (by simp) _)).step
    (uncounted_rirbsize _)
  refine ⟨c, hexec.trans ?_⟩
  have hrd {r : Reg} (hr : r ≠ .glob .rirbctl) (x : Word) : (s.setReg (.glob .rirbctl) x).reg r = s.reg r :=
    RegFile.rd_put_of_ne _ hr _
  have hwp (x y : Word) : ((s.setReg (.glob .rirbctl) x).setReg (.glob .rirbsts) y).regs.rd (.glob .rirbwp) =
      s.regs.rd (.glob .rirbwp) := (RegFile.rd_put_of_ne _ (by decide) y).trans (hrd (by decide) x)
  have hdmaen (y : Word) :
      ((s.setReg (.glob .rirbctl) (v &&& 0x07)).setReg (.glob .rirbsts) y).regs.rirbDmaen = v.getLsbD 1 :=
    (congrArg (BitVec.getLsbD · 1) (RegFile.rd_put_of_ne _ (by decide) y)).trans (getLsbD_one_put _ rfl rfl v)
  rw [Nat.mul_zero, BitVec.ushiftRight_zero, hrd (by decide), rirbsizeWritten_of (f := s.regs) (hdmaen _) (hwp _ _)]
  rw [State.recount_ite]
  rfl

end Sys2Proof.Machine
end

section
/-! SDCTL and SDSTS in one write (43_stream_registers.md R231 to R235, 44_stream_dma.md R262 to R264, R283, R286;
45_host_ops.md R305): what each write of SDCTL leaves, the calls to the sinks among it, and what SDSTS then clears. -/

namespace Sys2Proof.Machine

/-! ### Disabling and resetting an engine (R283, R286) -/

/-- SD.DISABLE as one update: the record, the sink's stop if the engine was armed, and the counters (R283). -/
theorem sdDisable_eq (n : Stream) (s : State) :
    ∃ c, sdDisable n s =
      { s with
        counts := c,
        out := { s.out with
                 sinkCalls := if (s.dmaOf n).running then .stop n :: s.out.sinkCalls else s.out.sinkCalls } }.setDma n
        { s.dmaOf n with running := false, ring := if (s.dmaOf n).running then [] else (s.dmaOf n).ring } := by
  cases hrun : (s.dmaOf n).running with
  | true =>
    unfold sdDisable
    dsimp only
    rw [if_pos hrun]
    split
    · exact ⟨_, rfl⟩
    · exact ⟨_, rfl⟩
  | false =>
    have hrecord : { s.dmaOf n with running := false } = s.dmaOf n := by rw [← hrun]
    refine ⟨s.counts, ?_⟩
    rw [sdDisable_of_not_running hrun, if_neg Bool.false_ne_true, if_neg Bool.false_ne_true, hrecord]
    exact (setDma_self s n).symm

/-- A reset of the stream calls no sink, after SD.DISABLE has stopped it (R286). -/
theorem disableReset_outside (n : Stream) (s : State) :
    (sdReset n (sdDisable n s)).oracle = s.oracle ∧
    (sdReset n (sdDisable n s)).out.sinkCalls =
      if (s.dmaOf n).running then .stop n :: s.out.sinkCalls else s.out.sinkCalls := by
  obtain ⟨c, heq⟩ := sdDisable_eq n s
  rw [heq]
  exact ⟨rfl, rfl⟩

/-- SD.DISABLE after the store of SDCTL, as one update (R233, R283). -/
theorem sdDisable_storeSdctl (n : Stream) (new : Word) (s : State) :
    ∃ c, sdDisable n (storeSdctl n new s) =
      ({ s with
         counts := c,
         out := { s.out with
                  sinkCalls := if (s.dmaOf n).running then .stop n :: s.out.sinkCalls else s.out.sinkCalls } }.setReg
        (.str .ctl n) new).setDma n
        { s.dmaOf n with
          inReset := false, running := false, ring := if (s.dmaOf n).running then [] else (s.dmaOf n).ring } := by
  obtain ⟨c, heq⟩ := sdDisable_eq n (storeSdctl n new s)
  rw [storeSdctl_dmaOf] at heq
  have htwice := setDma_twice ({ s with
    counts := c,
    out := { s.out with
             sinkCalls := if (s.dmaOf n).running then .stop n :: s.out.sinkCalls else s.out.sinkCalls } }.setReg
    (.str .ctl n) new) n { s.dmaOf n with inReset := false }
    { s.dmaOf n with
      inReset := false, running := false, ring := if (s.dmaOf n).running then [] else (s.dmaOf n).ring }
  exact ⟨c, heq.trans htwice⟩

/-! ### The list and the preconditions of a start (R108, R263) -/

theorem slice_take_drop (bytes : List Byte) (a : Nat) {i k m : Nat} (h : i + k ≤ m) :
    slice ((bytes.drop a).take m) i k = slice bytes (a + i) k := by
  unfold slice
  rw [List.drop_take, List.take_take, List.drop_drop, Nat.min_eq_left (by omega)]

/-- Entry `i` of a list as a start decodes it (R108). -/
theorem getElem?_decodeBdl (k : Nat) : ∀ (bytes : List Byte) (i : Nat), i < k →
    (decodeBdl bytes k)[i]? = some (decodeBdle ((bytes.drop (16 * i)).take 16)) := by
  induction k with
  | zero => exact fun _ i h => absurd h (Nat.not_lt_zero i)
  | succ k ih =>
    intro bytes i h
    cases i with
    | zero => rfl
    | succ i =>
      refine (ih (bytes.drop bdleBytes) i (by omega)).trans ?_
      rw [List.drop_drop, Nat.mul_succ, Nat.add_comm (16 * i) 16]
      rfl

/-- The list that a statement speaks of is the list that a start decodes (R108, R262). -/
theorem ListRead.eq_decodeBdl {f : RegFile} {n : Stream} {bytes : List Byte} {bdl : List Bdle}
    (h : ListRead f n bytes bdl) : bdl = decodeBdl bytes (f.entryCount n) := by
  obtain ⟨hlen, hentry⟩ := h
  apply List.ext_getElem?
  intro i
  by_cases hi : i < f.entryCount n
  · rw [hentry i hi, getElem?_decodeBdl _ _ _ hi]
    unfold decodeBdle
    rw [slice_take_drop _ _ (by decide), slice_take_drop _ _ (by decide), slice_take_drop _ _ (by decide)]
    rfl
  · rw [List.getElem?_eq_none (by omega), List.getElem?_eq_none (by rw [length_decodeBdl]; omega)]

/-- The preconditions of R263 as a start decides them. -/
theorem startFormat_eq_some_iff (s : State) (n : Stream) (bdl : List Bdle) (fmt : Fmt) :
    startFormat s n bdl = some fmt ↔ StartOk s n bdl fmt := by
  unfold startFormat StartOk totalLen
  simp only [List.all_eq_true, decide_eq_true_eq]
  constructor
  · intro h
    split at h
    · next hc => exact ⟨hc.1, hc.2.1, hc.2.2, h⟩
    · cases h
  · rintro ⟨hcbl, hlen, hsum, hfmt⟩
    rw [if_pos ⟨hcbl, hlen, hsum⟩, hfmt]

theorem startFormat_eq_none_iff (s : State) (n : Stream) (bdl : List Bdle) :
    startFormat s n bdl = none ↔ ¬ ∃ fmt, StartOk s n bdl fmt := by
  simp only [← startFormat_eq_some_iff, Option.eq_none_iff_forall_ne_some, not_exists, ne_eq]

/-! ### The outside in a start (R262, R305) -/

theorem noteBackend_out (n : Stream) (ok : Bool) (s : State) : (noteBackend n ok s).out = s.out := by
  unfold noteBackend
  split
  · rfl
  · rfl

/-- Arming an engine takes two answers of the sink, to the format and to the start (R262, R305). -/
theorem armStream_outside (n : Stream) (f : Fmt) (s : State) :
    (armStream n f s).oracle = { s.oracle with sink := s.oracle.sink.drop 2, sinkSeq := s.oracle.sinkSeq + 2 } ∧
    (armStream n f s).out.sinkCalls = .start n :: .setFormat n f.rate f.channels f.bits :: s.out.sinkCalls := by
  have harm : (armStream n f s).oracle = (askSink n f s).2.oracle ∧ (armStream n f s).out = (askSink n f s).2.out :=
    ⟨noteBackend_oracle .., noteBackend_out ..⟩
  rw [harm.1, harm.2, (askSink_eq n f s).2]
  exact ⟨rfl, by simp [askSink]⟩

theorem loaded_outside (n : Stream) (bytes : List Byte) (s : State) :
    (loadBdl n bytes (startPosition s n)).oracle = s.oracle ∧ (loadBdl n bytes (startPosition s n)).out = s.out := by
  simp [loadBdl, startPosition]

/-- An accepted start arms the engine on the list and the position it took in (R262, R263). -/
theorem sdStart_eq_armStream {n : Stream} {s : State} {bytes : List Byte} {f : Fmt} (h : fetchBdl s n = some bytes)
    (hf : startFormat s n (decodeBdl bytes (s.regs.entryCount n)) = some f) :
    sdStart n s = armStream n f (loadBdl n bytes (startPosition s n)) := by
  rw [sdStart_fetched h]
  unfold startLoaded
  rw [bdl_loaded, startFormat_after_load, hf]

/-- An accepted start asks the sink twice, and the engine's record has its answer (R262, R305). -/
theorem sdStart_armed_outside {n : Stream} {s : State} {bytes : List Byte} {f : Fmt} (h : fetchBdl s n = some bytes)
    (hf : startFormat s n (decodeBdl bytes (s.regs.entryCount n)) = some f) :
    ((sdStart n s).dmaOf n).sinkOk = (sinkAnswerAt s 0 && sinkAnswerAt s 1) ∧
    (sdStart n s).oracle = { s.oracle with sink := s.oracle.sink.drop 2, sinkSeq := s.oracle.sinkSeq + 2 } ∧
    (sdStart n s).out.sinkCalls = .start n :: .setFormat n f.rate f.channels f.bits :: s.out.sinkCalls := by
  obtain ⟨horacle, hout⟩ := loaded_outside n bytes s
  rw [sdStart_eq_armStream h hf]
  generalize loadBdl n bytes (startPosition s n) = u at horacle hout ⊢
  obtain ⟨harmed, hcalls⟩ := armStream_outside n f u
  refine ⟨?_, ?_, ?_⟩
  · rw [armStream_dmaOf]
    refine (askSink_eq n f u).1.trans ?_
    unfold sinkAnswerAt
    rw [horacle]
  · rw [harmed, horacle]
  · rw [hcalls, hout]

/-- A start that is not accepted asks no sink (R262, R305). -/
theorem sdStart_refused_outside {n : Stream} {s : State}
    (h : ∀ bytes, fetchBdl s n = some bytes → startFormat s n (decodeBdl bytes (s.regs.entryCount n)) = none) :
    (sdStart n s).oracle = s.oracle ∧ (sdStart n s).out = s.out := by
  cases hfetch : fetchBdl s n with
  | none =>
    unfold sdStart startFetch
    rw [fetchBdl_startPosition, hfetch]
    exact ⟨rfl, rfl⟩
  | some bytes =>
    have heq : sdStart n s = refuseStart n (loadBdl n bytes (startPosition s n)) := by
      rw [sdStart_fetched hfetch]
      unfold startLoaded
      rw [bdl_loaded, startFormat_after_load, h bytes hfetch]
    rw [heq]
    exact loaded_outside n bytes s

/-! ### The cases of SDCTL (R231 to R233) -/

section
variable {n : Stream} {v : Word} {s : State}

theorem wSdctl_of_srst (hsrst : v.getLsbD 0 = true) : wSdctl n v s = holdStreamReset n s := by
  unfold wSdctl
  dsimp only
  rw [getLsbD_masked v _ 0 rfl, if_pos hsrst]

theorem wSdctl_of_start (hsrst : v.getLsbD 0 = false) (hrun : v.getLsbD 1 = true) (hstopped : s.regs.run n = false) :
    wSdctl n v s = sdStart n (storeSdctl n (v &&& 0xFF001F) s) := by
  unfold wSdctl
  dsimp only
  rw [getLsbD_masked v _ 0 rfl, getLsbD_masked v _ 1 rfl, hsrst, hrun, hstopped]
  rfl

theorem wSdctl_of_stop (hsrst : v.getLsbD 0 = false) (hrun : v.getLsbD 1 = false) (hrunning : s.regs.run n = true) :
    wSdctl n v s = sdDisable n (storeSdctl n (v &&& 0xFF001F) s) := by
  unfold wSdctl
  dsimp only
  rw [getLsbD_masked v _ 0 rfl, getLsbD_masked v _ 1 rfl, hsrst, hrun, hrunning]
  rfl

theorem wSdctl_of_same (hsrst : v.getLsbD 0 = false) (hrun : v.getLsbD 1 = s.regs.run n) :
    wSdctl n v s = storeSdctl n (v &&& 0xFF001F) s := by
  unfold wSdctl
  dsimp only
  rw [getLsbD_masked v _ 0 rfl, getLsbD_masked v _ 1 rfl, hsrst, hrun]
  cases s.regs.run n
  · rfl
  · rfl

theorem setInReset_regs (n : Stream) (b : Bool) (s : State) : (setInReset n b s).regs = s.regs := rfl

theorem setInReset_oracle (n : Stream) (b : Bool) (s : State) : (setInReset n b s).oracle = s.oracle := rfl

theorem setInReset_out (n : Stream) (b : Bool) (s : State) : (setInReset n b s).out = s.out := rfl

/-- Entering Reset: the registers and the record take their reset values, the sink of an armed engine is stopped
(R231, R286). -/
theorem wSdctl_enterReset (hsrst : v.getLsbD 0 = true) (hheld : s.regs.srst n = false) :
    (∀ r, (wSdctl n v s).regs.rd r =
      if r = .str .ctl n then 0x040001 else if r.ofStream n then r.resetVal else s.regs.rd r) ∧
    (wSdctl n v s).dmaOf n = { Dma.reset with inReset := true } ∧ (wSdctl n v s).oracle = s.oracle ∧
    (wSdctl n v s).out.sinkCalls =
      if (s.dmaOf n).running then .stop n :: s.out.sinkCalls else s.out.sinkCalls := by
  have hhold : wSdctl n v s = setInReset n true ((sdReset n (sdDisable n s)).setReg (.str .ctl n) 0x040001) := by
    rw [wSdctl_of_srst hsrst]
    unfold holdStreamReset
    dsimp only
    rw [hheld, if_neg Bool.false_ne_true]
  have hrd (r : Reg) : (sdReset n (sdDisable n s)).regs.rd r = if r.ofStream n then r.resetVal else s.regs.rd r := by
    rw [sdReset_rd, sdDisable_regs]
  have hdma : (sdReset n (sdDisable n s)).dmaOf n = Dma.reset := by rw [sdReset_dmaOf, if_pos rfl]
  obtain ⟨horacle, hcalls⟩ := disableReset_outside n s
  rw [hhold]
  refine ⟨fun r => ?_, ?_, ?_, ?_⟩
  · have hfull : (0x040001 : Word) &&& (Reg.str .ctl n).fullMask = 0x040001 := by
      rw [fullMask_ctl]
      decide
    rw [setInReset_regs, State.setReg_regs, RegFile.rd_put, hrd, hfull]
  · rw [setInReset_dmaOf, State.dmaOf_setReg, hdma]
  · rw [setInReset_oracle, State.setReg_oracle, horacle]
  · rw [setInReset_out, State.setReg_out, hcalls]

/-! ### A start by a write of SDCTL (R232, R233, R262 to R264) -/

/-- The store of SDCTL changes nothing that a start reads but the tag (R262). -/
theorem storeSdctl_rd {r : Reg} (hr : r ≠ .str .ctl n) (new : Word) : (storeSdctl n new s).regs.rd r = s.regs.rd r :=
  RegFile.rd_put_of_ne _ hr _

theorem storeSdctl_entryCount (new : Word) : (storeSdctl n new s).regs.entryCount n = s.regs.entryCount n := by
  unfold RegFile.entryCount
  rw [storeSdctl_rd (by simp)]

theorem storeSdctl_fetchBdl (new : Word) : fetchBdl (storeSdctl n new s) n = fetchBdl s n := by
  unfold fetchBdl RegFile.bdlBase
  rw [storeSdctl_rd (by simp), storeSdctl_rd (by simp), storeSdctl_entryCount]
  rfl

theorem storeSdctl_startFormat (new : Word) (bdl : List Bdle) :
    startFormat (storeSdctl n new s) n bdl = startFormat s n bdl := by
  unfold startFormat RegFile.cbl
  rw [State.reg_eq, State.reg_eq, storeSdctl_rd (by simp), storeSdctl_rd (by simp)]
  rfl

theorem storeSdctl_ctl (n : Stream) (v : Word) (s : State) :
    (storeSdctl n (v &&& 0xFF001F) s).regs.rd (.str .ctl n) = v &&& 0xFF001F := by
  rw [storeSdctl_regs, RegFile.rd_put_same, fullMask_ctl]
  exact and_of_and_eq rfl

/-- An accepted start by a write of SDCTL: the registers, the armed engine, the two calls (R262, R263, R305). -/
theorem wSdctl_started {bytes : List Byte} {bdl : List Bdle} {fmt : Fmt} (hsrst : v.getLsbD 0 = false)
    (hrun : v.getLsbD 1 = true) (hstopped : s.regs.run n = false)
    (hread : s.mem.read (s.regs.bdlBase n) (16 * s.regs.entryCount n) = some bytes) (hlist : ListRead s.regs n bytes bdl)
    (hok : StartOk s n bdl fmt) :
    (∀ r, (wSdctl n v s).regs.rd r =
      if r = .str .ctl n then v &&& 0xFF001F else if r = .str .lpib n then 0 else s.regs.rd r) ∧
    (wSdctl n v s).dmaOf n =
      { running := true, inReset := false, curEntry := 0, curOff := 0, bdl := bdl,
        sched := buildSchedule s.cfg bdl fmt, schedIdx := 0, schedLoop := 0, pendingIrq := 0, tsLast := s.now,
        tsNext := s.now + ticksAt (buildSchedule s.cfg bdl fmt) 0, ring := [],
        sinkOk := sinkAnswerAt s 0 && sinkAnswerAt s 1, boundTag := (v &&& 0xFF001F).extractLsb' 20 4 } ∧
    (wSdctl n v s).oracle = { s.oracle with sink := s.oracle.sink.drop 2, sinkSeq := s.oracle.sinkSeq + 2 } ∧
    (wSdctl n v s).out.sinkCalls = .start n :: .setFormat n fmt.rate fmt.channels fmt.bits :: s.out.sinkCalls := by
  have hbdl := hlist.eq_decodeBdl
  have hfetch : fetchBdl (storeSdctl n (v &&& 0xFF001F) s) n = some bytes := (storeSdctl_fetchBdl _).trans hread
  have hcount := storeSdctl_entryCount (n := n) (s := s) (v &&& 0xFF001F)
  have hformat : startFormat (storeSdctl n (v &&& 0xFF001F) s) n
      (decodeBdl bytes ((storeSdctl n (v &&& 0xFF001F) s).regs.entryCount n)) = some fmt := by
    rw [hcount, ← hbdl, storeSdctl_startFormat, startFormat_eq_some_iff]
    exact hok
  obtain ⟨⟨ok, hdma⟩, hregs⟩ := sdStart_armed hfetch hformat
  obtain ⟨hanswer, horacle, hcalls⟩ := sdStart_armed_outside hfetch hformat
  rw [wSdctl_of_start hsrst hrun hstopped]
  refine ⟨fun r => ?_, ?_, horacle, hcalls⟩
  · rw [hregs]
    by_cases hr : r = .str .ctl n
    · subst hr
      rw [storeSdctl_ctl, if_pos rfl, if_neg (by simp)]
    · rw [storeSdctl_rd hr, if_neg hr]
  · have hanswered : ok = (sinkAnswerAt s 0 && sinkAnswerAt s 1) := by
      rw [hdma] at hanswer
      exact hanswer
    have htag : (storeSdctl n (v &&& 0xFF001F) s).regs.tag n = (v &&& 0xFF001F).extractLsb' 20 4 := by
      unfold RegFile.tag
      rw [storeSdctl_ctl]
    rw [hdma, hcount, ← hbdl, storeSdctl_dmaOf, htag, hanswered]
    rfl

/-- A start by a write of SDCTL that is refused, with DESE where the list cannot be fetched: the registers, the engine
that stays disarmed, no call (R262 to R264). -/
theorem wSdctl_startRefused {dese : Bool} (hsrst : v.getLsbD 0 = false) (hrun : v.getLsbD 1 = true)
    (hstopped : s.regs.run n = false)
    (hunread : dese = true → s.mem.read (s.regs.bdlBase n) (16 * s.regs.entryCount n) = none)
    (hunfit : dese = false → ∃ bytes bdl, s.mem.read (s.regs.bdlBase n) (16 * s.regs.entryCount n) = some bytes ∧
      ListRead s.regs n bytes bdl ∧ ¬ ∃ fmt, StartOk s n bdl fmt) :
    (∀ r, (wSdctl n v s).regs.rd r =
      if r = .str .ctl n then v &&& 0xFF001F else if r = .str .lpib n then 0
      else if r = .str .sts n ∧ dese = true then (s.regs.rd r ||| 0x10) &&& r.fullMask else s.regs.rd r) ∧
    (∃ bdl, (wSdctl n v s).dmaOf n =
      { ({ s.dmaOf n with inReset := false } : Dma).starting ((v &&& 0xFF001F).extractLsb' 20 4) with bdl := bdl }) ∧
    (wSdctl n v s).oracle = s.oracle ∧ (wSdctl n v s).out = s.out := by
  have htag : (storeSdctl n (v &&& 0xFF001F) s).regs.tag n = (v &&& 0xFF001F).extractLsb' 20 4 := by
    unfold RegFile.tag
    rw [storeSdctl_ctl]
  rw [wSdctl_of_start hsrst hrun hstopped]
  cases dese with
  | true =>
    have hfetch : fetchBdl (storeSdctl n (v &&& 0xFF001F) s) n = none := (storeSdctl_fetchBdl _).trans (hunread rfl)
    obtain ⟨hdma, hregs⟩ := sdStart_unfetched hfetch
    obtain ⟨horacle, hout⟩ := sdStart_refused_outside (s := storeSdctl n (v &&& 0xFF001F) s) fun bytes h => by
      rw [hfetch] at h
      cases h
    refine ⟨fun r => ?_, ⟨[], ?_⟩, horacle, hout⟩
    · rw [hregs, storeSdctl_rd (by simp)]
      by_cases hctl : r = .str .ctl n
      · subst hctl
        rw [if_neg (by simp), if_neg (by simp), if_pos rfl, storeSdctl_ctl]
      · rw [storeSdctl_rd hctl, if_neg hctl]
        by_cases hsts : r = .str .sts n
        · subst hsts
          rw [if_pos rfl, if_neg (by simp), if_pos ⟨rfl, rfl⟩]
          rfl
        · rw [if_neg hsts, if_neg (c := r = .str .sts n ∧ true = true) fun h => hsts h.1]
    · rw [hdma, storeSdctl_dmaOf, htag]
      rfl
  | false =>
    obtain ⟨bytes, bdl, hread, hlist, hno⟩ := hunfit rfl
    have hfetch : fetchBdl (storeSdctl n (v &&& 0xFF001F) s) n = some bytes := (storeSdctl_fetchBdl _).trans hread
    have hformat : startFormat (storeSdctl n (v &&& 0xFF001F) s) n
        (decodeBdl bytes ((storeSdctl n (v &&& 0xFF001F) s).regs.entryCount n)) = none := by
      rw [storeSdctl_entryCount, ← hlist.eq_decodeBdl, storeSdctl_startFormat, startFormat_eq_none_iff]
      exact hno
    obtain ⟨hdma, hregs⟩ := sdStart_refused hfetch hformat
    obtain ⟨horacle, hout⟩ := sdStart_refused_outside (s := storeSdctl n (v &&& 0xFF001F) s) fun bytes' h => by
      obtain rfl := Option.some.inj (hfetch.symm.trans h)
      exact hformat
    refine ⟨fun r => ?_, ⟨decodeBdl bytes ((storeSdctl n (v &&& 0xFF001F) s).regs.entryCount n), ?_⟩, horacle, hout⟩
    · rw [hregs, if_neg (c := r = .str .sts n ∧ false = true) fun h => Bool.false_ne_true h.2]
      by_cases hctl : r = .str .ctl n
      · subst hctl
        rw [if_neg (by simp), if_pos rfl, storeSdctl_ctl]
      · rw [storeSdctl_rd hctl, if_neg hctl]
    · rw [hdma, storeSdctl_dmaOf, htag]

end

/-! ### SDSTS after SDCTL (R144, R235) -/

/-- A stream operation as one update of the state: what it may change beside registers, engines and counters. -/
theorem OnlyStream.eq_update {n : Stream} {s t : State} {oracle : Oracle} {calls : List SinkCall} (h : OnlyStream n s t)
    (horacle : t.oracle = oracle) (hcalls : t.out.sinkCalls = calls) :
    t = { s with
          regs := t.regs, dma := t.dma, counts := t.counts, oracle := oracle,
          out := { s.out with sinkCalls := calls } } := by
  obtain ⟨⟨hcfg, hmem, hsaved, hnow, hpending, hlevel, hwire, hread, hmoved, hrendered⟩, _, _, hcorb, hrirb, hresp, hkick,
    hepoch⟩ := h
  have hout : t.out = { s.out with sinkCalls := calls } := by
    dsimp only
    rw [← hwire, ← hread, ← hmoved, ← hrendered, ← hcalls]
  rw [← hout, ← hcfg, ← hmem, ← hsaved, ← hnow, ← hpending, ← hlevel, ← hcorb, ← hrirb, ← hresp, ← hkick, ← hepoch,
    ← horacle]

theorem onlyStream_recount (n : Stream) (s : State) (c : Counts) : OnlyStream n s (s.recount c) :=
  onlyStream_of_eq ⟨rfl, rfl, rfl, rfl, rfl, rfl, rfl, rfl, rfl, rfl⟩ rfl rfl rfl rfl rfl rfl rfl

theorem uncounted_sdsts (n : Stream) (val : Word) : Uncounted (.str .sts n) val (wSdsts n val) :=
  uncounted_of_eq (fun _ => rfl) fun s c => by
    rw [wSdsts_eq, wSdsts_eq]
    rfl

theorem pieces_sdctl : ∀ n : Stream, pieces (Reg.str .ctl n).off .w4 =
    [(Reg.str .ctl n, 0), (.str .sts n, 3)].map (fun p => wholePiece p.1 p.2) ++ [] := by
  decide +kernel

/-- Four bytes at SDCTL run W_SDCTL, then W_SDSTS on the state that it left (R144). -/
theorem exec_sdctl_span {i : Instr} {s : State} {n : Stream} {v : Word} (hcrst : s.regs.crst = true)
    (hform : i.form = .wr (.reg (.str .ctl n)) 0 .w4 v) :
    ∃ c₁ c₂, exec i s = .next (endWrite ((wSdsts n (v >>> 24) (wSdctl n v (s.recount c₁))).recount c₂)) := by
  obtain ⟨t, ⟨c₁, hrun⟩, hexec⟩ := exec_span hform hcrst [(.str .ctl n, 0), (.str .sts n, 3)] (by simp) (rest := [])
    (by simp) (pieces_sdctl n)
  obtain ⟨c₂, rfl⟩ := HandlersRun.step hrun (uncounted_sdsts n _)
  rw [Nat.mul_zero, BitVec.ushiftRight_zero] at hexec
  exact ⟨c₁, c₂, hexec⟩

/-- Bit 26 of such a write is BCIS (R235). -/
theorem getLsbD_bcis (v : Word) : (v >>> 24).getLsbD 2 = v.getLsbD 26 := BitVec.getLsbD_ushiftRight ..

/-- Flags that are not set are not cleared. -/
theorem and_not_of_disjoint {a m : Word} (h : a &&& m = 0) (x : Word) : a &&& ~~~(x &&& m) = a := by
  ext k hk
  have hbit := congrArg (fun y : Word => y[k]) h
  simp only [BitVec.getElem_and, BitVec.getElem_not] at hbit ⊢
  revert hbit
  cases a[k] <;> cases m[k] <;> simp

/-- An empty queue of pending interrupts stays empty. -/
theorem Dma.acknowledge_empty {d : Dma} (h : d.pendingIrq = 0) (b : Bool) :
    { d with pendingIrq := if b then 0 else d.pendingIrq } = d := by
  have hqueue : (if b then 0 else d.pendingIrq) = d.pendingIrq := by rw [h, ite_self]
  rw [hqueue]

/-- W_SDSTS after an update of the engine's record (R235). -/
theorem wSdsts_setDma (n : Stream) (v : Word) (u : State) (d : Dma) :
    wSdsts n (v >>> 24) (u.setDma n d) =
      (u.setReg (.str .sts n) (u.reg (.str .sts n) &&& ~~~((v >>> 24) &&& 0x1C))).setDma n
        { d with pendingIrq := if v.getLsbD 26 then 0 else d.pendingIrq } := by
  have hself : (u.setDma n d).dmaOf n = d := by rw [State.dmaOf_setDma, if_pos rfl]
  rw [wSdsts_eq, hself, getLsbD_bcis]
  exact setDma_twice (u.setReg (.str .sts n) (u.reg (.str .sts n) &&& ~~~((v >>> 24) &&& 0x1C))) n d _

/-- What W_SDSTS leaves of a stream operation that ran before it in the same write: the flags of SDSTS and the queue of
pending interrupts change, nothing else (R144, R235). -/
theorem acknowledged {n : Stream} {s a : State} (h : OnlyStream n s a) (v : Word) (c : Counts) :
    let u := (wSdsts n (v >>> 24) a).recount c
    u = { s with
          regs := u.regs, dma := u.dma, counts := u.counts, oracle := a.oracle,
          out := { s.out with sinkCalls := a.out.sinkCalls } } ∧
    (∀ r, u.reg r =
      if r = .str .sts n then a.regs.rd r &&& ~~~((v >>> 24) &&& 0x1C) &&& r.fullMask else a.regs.rd r) ∧
    ∀ m, u.dmaOf m =
      if m = n then { a.dmaOf n with pendingIrq := if v.getLsbD 26 then 0 else (a.dmaOf n).pendingIrq } else s.dmaOf m := by
  have hsts := wSdsts_eq n (v >>> 24) a
  rw [getLsbD_bcis] at hsts
  refine ⟨?_, fun r => ?_, fun m => ?_⟩
  · have hstream := (h.trans (onlyStream_wSdsts n (v >>> 24) a)).trans (onlyStream_recount n _ c)
    refine hstream.eq_update ?_ ?_
    · rw [hsts]
      rfl
    · rw [hsts]
      rfl
  · change (wSdsts n (v >>> 24) a).regs.rd r = _
    rw [hsts, State.setDma_regs, State.setReg_regs, RegFile.rd_put, State.reg_eq]
    split
    · next hr => rw [hr]
    · rfl
  · change (wSdsts n (v >>> 24) a).dmaOf m = _
    rw [hsts, State.dmaOf_setDma]
    split
    · rfl
    · next hm => exact h.dma m hm

/-! ### The cases of the write -/

/-- A change of SDSTS is one behind those of SDCTL and LPIB. -/
theorem ite_sts_behind (n : Stream) (r : Reg) (f : Word → Word) (a b x : Word) :
    (if r = .str .sts n then f (if r = .str .ctl n then a else if r = .str .lpib n then b else x)
      else if r = .str .ctl n then a else if r = .str .lpib n then b else x) =
    if r = .str .ctl n then a else if r = .str .lpib n then b else if r = .str .sts n then f x else x := by
  by_cases hsts : r = .str .sts n
  · subst hsts
    simp
  · rw [if_neg hsts, if_neg hsts]

section
variable {i : Instr} {s : State} {n : Stream} {v : Word} (hcrst : s.regs.crst = true)
  (hform : i.form = .wr (.reg (.str .ctl n)) 0 .w4 v)
include hcrst hform

/-- The write enters Reset; SDSTS at its reset value has no flag to clear (R231, R286). -/
theorem sdctl_span_enterReset (hsrst : v.getLsbD 0 = true) (hheld : s.regs.srst n = false) :
    ∃ u, exec i s = .next (endWrite u) ∧
      u = { s with
            regs := u.regs, dma := u.dma, counts := u.counts,
            out := { s.out with
                     sinkCalls := if (s.dmaOf n).running then .stop n :: s.out.sinkCalls else s.out.sinkCalls } } ∧
      (∀ r, u.reg r = if r = .str .ctl n then 0x040001 else if r.ofStream n then r.resetVal else s.reg r) ∧
      ∀ m, u.dmaOf m = if m = n then { Dma.reset with inReset := true } else s.dmaOf m := by
  obtain ⟨c₁, c₂, hexec⟩ := exec_sdctl_span hcrst hform
  obtain ⟨hregs, hdma, horacle, hcalls⟩ := wSdctl_enterReset (s := s.recount c₁) hsrst hheld
  have hstream := (onlyStream_recount n s c₁).trans (onlyStream_wSdctl n v (s.recount c₁))
  obtain ⟨hframe, hack, hrecord⟩ := acknowledged hstream v c₂
  rw [horacle, hcalls] at hframe
  refine ⟨_, hexec, hframe, fun r => ?_, fun m => ?_⟩
  · rw [hack, hregs]
    by_cases hr : r = .str .sts n
    · have hflags : (Reg.str .sts n).resetVal &&& 0x1C = 0 := by
        rw [(frozen_sts n).2]
        decide
      have hctl : ¬ Reg.str .sts n = .str .ctl n := by simp
      have hmine : (Reg.str .sts n).ofStream n = true := decide_eq_true rfl
      subst hr
      rw [if_pos rfl, if_neg hctl, if_pos hmine, and_not_of_disjoint hflags, SReg.resetVal_full, if_neg hctl,
        if_pos hmine]
    · rw [if_neg hr]
      rfl
  · rw [hrecord, Dma.acknowledge_empty (by rw [hdma]; rfl), hdma]

/-- In Reset already, SDCTL holds the stream there, and SDSTS is acknowledged (R231, R235). -/
theorem sdctl_span_stayInReset (hsrst : v.getLsbD 0 = true) (hheld : s.regs.srst n = true) :
    ∃ c, exec i s = .next (endWrite
      ((({ s with counts := c }.setReg (.str .ctl n) 0x040001).setReg (.str .sts n)
        (s.reg (.str .sts n) &&& ~~~((v >>> 24) &&& 0x1C))).setDma n
        { s.dmaOf n with inReset := true, pendingIrq := if v.getLsbD 26 then 0 else (s.dmaOf n).pendingIrq })) := by
  obtain ⟨c₁, c₂, hexec⟩ := exec_sdctl_span hcrst hform
  have hhold (u : State) (hu : u.regs.srst n = true) : holdStreamReset n u =
      (u.setReg (.str .ctl n) 0x040001).setDma n { u.dmaOf n with inReset := true } := by
    unfold holdStreamReset
    dsimp only
    rw [hu, if_pos rfl]
    rfl
  have hkept (u : State) : (u.setReg (.str .ctl n) 0x040001).reg (.str .sts n) = u.reg (.str .sts n) :=
    RegFile.rd_put_of_ne _ (by simp) _
  rw [wSdctl_of_srst hsrst, hhold (s.recount c₁) hheld, wSdsts_setDma, hkept] at hexec
  exact ⟨c₂, hexec⟩

/-- SDCTL stores its bits and leaves RUN, and SDSTS is acknowledged (R233, R235). -/
theorem sdctl_span_sameRun (hsrst : v.getLsbD 0 = false) (hrun : v.getLsbD 1 = s.regs.run n) :
    ∃ c, exec i s = .next (endWrite
      ((({ s with counts := c }.setReg (.str .ctl n) (v &&& 0xFF001F)).setReg (.str .sts n)
        (s.reg (.str .sts n) &&& ~~~((v >>> 24) &&& 0x1C))).setDma n
        { s.dmaOf n with inReset := false, pendingIrq := if v.getLsbD 26 then 0 else (s.dmaOf n).pendingIrq })) := by
  obtain ⟨c₁, c₂, hexec⟩ := exec_sdctl_span hcrst hform
  have hstore (u : State) : storeSdctl n (v &&& 0xFF001F) u =
      (u.setReg (.str .ctl n) (v &&& 0xFF001F)).setDma n { u.dmaOf n with inReset := false } := rfl
  have hkept (u : State) (x : Word) : (u.setReg (.str .ctl n) x).reg (.str .sts n) = u.reg (.str .sts n) :=
    RegFile.rd_put_of_ne _ (by simp) _
  rw [wSdctl_of_same (s := s.recount c₁) hsrst hrun, hstore, wSdsts_setDma, hkept] at hexec
  exact ⟨c₂, hexec⟩

/-- SDCTL clears RUN, which disables the engine and stops its sink, and SDSTS is acknowledged (R233, R235, R283). -/
theorem sdctl_span_stop (hsrst : v.getLsbD 0 = false) (hrun : v.getLsbD 1 = false) (hrunning : s.regs.run n = true) :
    ∃ c, exec i s = .next (endWrite
      ((({ s with
           counts := c,
           out := { s.out with
                    sinkCalls := if (s.dmaOf n).running then .stop n :: s.out.sinkCalls else s.out.sinkCalls } }.setReg
          (.str .ctl n) (v &&& 0xFF001F)).setReg (.str .sts n)
          (s.reg (.str .sts n) &&& ~~~((v >>> 24) &&& 0x1C))).setDma n
        { s.dmaOf n with
          inReset := false, running := false, ring := if (s.dmaOf n).running then [] else (s.dmaOf n).ring,
          pendingIrq := if v.getLsbD 26 then 0 else (s.dmaOf n).pendingIrq })) := by
  obtain ⟨c₁, c₂, hexec⟩ := exec_sdctl_span hcrst hform
  obtain ⟨c, hdisable⟩ := sdDisable_storeSdctl n (v &&& 0xFF001F) (s.recount c₁)
  have hkept (u : State) (x : Word) : (u.setReg (.str .ctl n) x).reg (.str .sts n) = u.reg (.str .sts n) :=
    RegFile.rd_put_of_ne _ (by simp) _
  rw [wSdctl_of_stop (s := s.recount c₁) hsrst hrun hrunning, hdisable, wSdsts_setDma, hkept] at hexec
  exact ⟨c₂, hexec⟩

/-- SDCTL sets RUN and the start is accepted; then SDSTS is acknowledged (R232, R235, R262). -/
theorem sdctl_span_start {bytes : List Byte} {bdl : List Bdle} {fmt : Fmt} (hsrst : v.getLsbD 0 = false)
    (hrun : v.getLsbD 1 = true) (hstopped : s.regs.run n = false)
    (hread : s.mem.read (s.regs.bdlBase n) (16 * s.regs.entryCount n) = some bytes) (hlist : ListRead s.regs n bytes bdl)
    (hok : StartOk s n bdl fmt) :
    ∃ u, exec i s = .next (endWrite u) ∧
      u = { s with
            regs := u.regs, dma := u.dma, counts := u.counts,
            oracle := { s.oracle with sink := s.oracle.sink.drop 2, sinkSeq := s.oracle.sinkSeq + 2 },
            out := { s.out with
                     sinkCalls := .start n ::
                       .setFormat n (fmt.base * fmt.mult / fmt.div) fmt.channels fmt.bits :: s.out.sinkCalls } } ∧
      (∀ r, u.reg r =
        if r = .str .ctl n then v &&& 0xFF001F else if r = .str .lpib n then 0
        else if r = .str .sts n then s.reg r &&& ~~~((v >>> 24) &&& 0x1C) &&& r.fullMask else s.reg r) ∧
      ∀ m, u.dmaOf m =
        if m = n then
          { running := true, inReset := false, curEntry := 0, curOff := 0, bdl := bdl,
            sched := buildSchedule s.cfg bdl fmt, schedIdx := 0, schedLoop := 0, pendingIrq := 0, tsLast := s.now,
            tsNext := s.now + ticksAt (buildSchedule s.cfg bdl fmt) 0, ring := [],
            sinkOk := sinkAnswerAt s 0 && sinkAnswerAt s 1, boundTag := (v &&& 0xFF001F).extractLsb' 20 4 }
        else s.dmaOf m := by
  obtain ⟨c₁, c₂, hexec⟩ := exec_sdctl_span hcrst hform
  obtain ⟨hregs, hdma, horacle, hcalls⟩ := wSdctl_started (s := s.recount c₁) hsrst hrun hstopped hread hlist hok
  have hstream := (onlyStream_recount n s c₁).trans (onlyStream_wSdctl n v (s.recount c₁))
  obtain ⟨hframe, hack, hrecord⟩ := acknowledged hstream v c₂
  rw [horacle, hcalls] at hframe
  refine ⟨_, hexec, hframe, fun r => ?_, fun m => ?_⟩
  · rw [hack, hregs]
    exact ite_sts_behind n r (fun x => x &&& ~~~((v >>> 24) &&& 0x1C) &&& r.fullMask) _ _ _
  · rw [hrecord, Dma.acknowledge_empty (by rw [hdma]), hdma]
    rfl

/-- SDCTL sets RUN and the start is refused; a DESE that it set is cleared again if it is written as 1 (R235, R262 to
R264). -/
theorem sdctl_span_startRefused {dese : Bool} (hsrst : v.getLsbD 0 = false) (hrun : v.getLsbD 1 = true)
    (hstopped : s.regs.run n = false)
    (hunread : dese = true → s.mem.read (s.regs.bdlBase n) (16 * s.regs.entryCount n) = none)
    (hunfit : dese = false → ∃ bytes bdl, s.mem.read (s.regs.bdlBase n) (16 * s.regs.entryCount n) = some bytes ∧
      ListRead s.regs n bytes bdl ∧ ¬ ∃ fmt, StartOk s n bdl fmt) :
    ∃ u, exec i s = .next (endWrite u) ∧ u = { s with regs := u.regs, dma := u.dma, counts := u.counts } ∧
      (∀ r, u.reg r =
        if r = .str .ctl n then v &&& 0xFF001F else if r = .str .lpib n then 0
        else if r = .str .sts n then
          (if dese then s.reg r ||| 0x10 else s.reg r) &&& ~~~((v >>> 24) &&& 0x1C) &&& r.fullMask
        else s.reg r) ∧
      (∀ m, m ≠ n → u.dmaOf m = s.dmaOf m) ∧ (u.dmaOf n).running = false ∧ (u.dmaOf n).inReset = false ∧
      (u.dmaOf n).pendingIrq = 0 := by
  obtain ⟨c₁, c₂, hexec⟩ := exec_sdctl_span hcrst hform
  obtain ⟨hregs, ⟨bdl, hdma⟩, horacle, hout⟩ :=
    wSdctl_startRefused (s := s.recount c₁) hsrst hrun hstopped hunread hunfit
  have hstream := (onlyStream_recount n s c₁).trans (onlyStream_wSdctl n v (s.recount c₁))
  obtain ⟨hframe, hack, hrecord⟩ := acknowledged hstream v c₂
  rw [horacle, hout] at hframe
  have hself : ((wSdsts n (v >>> 24) (wSdctl n v (s.recount c₁))).recount c₂).dmaOf n =
      (wSdctl n v (s.recount c₁)).dmaOf n := by
    rw [hrecord, if_pos rfl, Dma.acknowledge_empty (by rw [hdma]; rfl)]
  refine ⟨_, hexec, hframe, fun r => ?_, fun m hm => ?_, ?_, ?_, ?_⟩
  · rw [hack, hregs]
    refine (ite_sts_behind n r (fun x => x &&& ~~~((v >>> 24) &&& 0x1C) &&& r.fullMask) _ _ _).trans ?_
    have hkept : (s.recount c₁).regs = s.regs := rfl
    by_cases hsts : r = .str .sts n
    · subst hsts
      cases dese with
      | true =>
        have hmask (x y m : Word) : x &&& m &&& y &&& m = x &&& y &&& m := by
          rw [BitVec.and_assoc x m y, BitVec.and_comm m y, ← BitVec.and_assoc, and_and_self]
        simp [hmask, hkept]
      | false => simp [hkept]
    · simp [hsts, hkept]
  · rw [hrecord, if_neg hm]
  · rw [hself, hdma]
    rfl
  · rw [hself, hdma]
    rfl
  · rw [hself, hdma]
    rfl

end

/-- Settles O37: the writes of R144, each by the law of its pair of handlers. -/
theorem spanningWrites : Obligations.SpanningWrites := by
  intro i s v hcrst
  refine ⟨fun n hform => ?_, ?_, ?_, ?_, ?_, ?_⟩
  · intro d ack queued stopped
    exact ⟨fun hsrst hheld => sdctl_span_enterReset hcrst hform hsrst hheld,
      fun hsrst hheld => sdctl_span_stayInReset hcrst hform hsrst hheld,
      fun hsrst hrun => sdctl_span_sameRun hcrst hform hsrst hrun,
      fun hsrst hrun hrunning => sdctl_span_stop hcrst hform hsrst hrun hrunning,
      fun hsrst hrun hstopped =>
        ⟨fun bytes bdl fmt hread hlist hok => sdctl_span_start hcrst hform hsrst hrun hstopped hread hlist hok,
          fun dese hunread hunfit => sdctl_span_startRefused hcrst hform hsrst hrun hstopped hunread hunfit⟩⟩
  · rintro rfl
    exact span_corbctl hcrst v
  · rintro rfl
    exact span_rirbctl hcrst v
  · rintro rfl
    exact span_corbwp hcrst v
  · rintro rfl
    exact span_rirbwp hcrst v
  · rintro rfl
    exact span_wakeen hcrst v

end Sys2Proof.Machine
end

section
/-! The global registers (41_global_registers.md R156 to R159, R161, R162; 42_corb_rirb.md R202): what a write leaves while
the controller is held in reset, the four cases of a write of GCTL, and the plain enables. -/

namespace Sys2Proof.Machine

/-! ### Writes of the enables (R161, R162, R202) -/

/-- The registers that take the writable bits of a write and clear the rest (R161, R162, R202). -/
theorem writeHandler_enable {r : Reg} {mask : Word}
    (h : (r, mask) ∈ [(Reg.glob .wakeen, (0x7FFF : Word)), (.glob .intctl, 0xC00000FF), (.glob .rirbctl, 0x07)])
    (val : Word) (s : State) : writeHandler r val s = s.setReg r (val &&& mask) := by
  simp only [List.mem_cons, List.not_mem_nil, or_false, Prod.mk.injEq] at h
  obtain ⟨rfl, rfl⟩ | ⟨rfl, rfl⟩ | ⟨rfl, rfl⟩ := h <;> rfl

/-- Settles O24: the handler of each of the three registers is one masked store. -/
theorem enableWrites : Obligations.EnableWrites := by
  intro i s r val mask hwrite hmask
  obtain ⟨c, hexec⟩ := exec_rowWrite hwrite
  exact ⟨c, by rw [hexec, writeHandler_enable hmask]⟩

/-! ### Held in reset (R159, R327) -/

/-- Held in reset, a piece that is not of GCTL changes only the counters. -/
theorem writePiece_blocked {s : State} (hcrst : s.regs.crst = false) {p : Piece} (hp : p.reg ≠ some (.glob .gctl))
    (v : Word) : ∃ c, writePiece v s p = s.recount c := by
  obtain ⟨reg, lo, hi, tlo⟩ := p
  cases reg with
  | none => exact ⟨s.counts, rfl⟩
  | some r => exact ⟨_, writePiece_held hcrst (fun h => hp (congrArg some h)) v lo hi tlo⟩

theorem writePieces_blocked (v : Word) {ps : List Piece} (hps : ∀ p ∈ ps, p.reg ≠ some (.glob .gctl)) :
    ∀ s : State, s.regs.crst = false → ∃ c, writePieces v ps s = s.recount c := by
  induction ps with
  | nil => exact fun s _ => ⟨s.counts, rfl⟩
  | cons p ps ih =>
    obtain ⟨hp, hrest⟩ := List.forall_mem_cons.mp hps
    intro s hcrst
    obtain ⟨c, hpiece⟩ := writePiece_blocked hcrst hp v
    obtain ⟨c', hpieces⟩ := ih hrest (s.recount c) hcrst
    exact ⟨c', by rw [writePieces_cons, hpiece, hpieces]; rfl⟩

/-- A write none of whose bytes is a byte of `r` has no piece of `r` (R136). -/
theorem reg_ne_of_uncovered {off : Nat} {w : Width} {r : Reg}
    (h : ∀ j < w.bytes, ∀ k, decodeByte (off + j) ≠ some (r, k)) {p : Piece} (hp : p ∈ pieces off w) : p.reg ≠ some r := by
  obtain ⟨j, _, hlt, hreg⟩ := reg_of_mem_piecesFrom w.bytes 0 hp
  intro heq
  obtain ⟨⟨r', k⟩, hbyte, rfl⟩ := Option.map_eq_some_iff.mp (hreg.symm.trans heq)
  exact h j (by omega) k hbyte

/-- Settles O21: held in reset every piece but one of GCTL is dropped and counted, and a write inside one register is one
piece. -/
theorem heldInReset : Obligations.HeldInReset := by
  intro i off w v s hwrite hcrst
  refine ⟨fun huncovered => ?_, fun u lo hform hin hu => ?_⟩
  · obtain ⟨c, hpieces⟩ := writePieces_blocked v (fun p hp => reg_ne_of_uncovered huncovered hp) s hcrst
    refine ⟨(noteUnmapped (pieces off w) (s.recount c)).counts, ?_⟩
    rw [exec_writesAt hwrite, hostWrite, hpieces, noteUnmapped_eq]
    rfl
  · rw [exec_wr hform, hostWrite_inside hin, writePiece_held hcrst hu]
    rfl

/-! ### The four writes of GCTL (R156) -/

section
variable {s : State} {val : Word}

/-- W_GCTL by the new and the old CRST (R156). -/
theorem wGctl_eq (val : Word) (s : State) :
    wGctl val s =
      if val.getLsbD 0 then
        if s.regs.crst then s.setReg (.glob .gctl) (val &&& 0x103)
        else leaveReset (s.setReg (.glob .gctl) (val &&& 0x103))
      else if s.regs.crst then ctrlReset s
      else s := by
  unfold wGctl
  dsimp only
  rw [getLsbD_masked val 0x103 0 rfl]

theorem wGctl_leave (hcrst : s.regs.crst = false) (hval : val.getLsbD 0 = true) :
    wGctl val s = leaveReset (s.setReg (.glob .gctl) (val &&& 0x103)) := by
  rw [wGctl_eq, hval, hcrst, if_pos rfl, if_neg Bool.false_ne_true]

theorem wGctl_store (hcrst : s.regs.crst = true) (hval : val.getLsbD 0 = true) :
    wGctl val s = s.setReg (.glob .gctl) (val &&& 0x103) := by
  rw [wGctl_eq, if_pos hval, if_pos hcrst]

theorem wGctl_enter (hcrst : s.regs.crst = true) (hval : val.getLsbD 0 = false) : wGctl val s = ctrlReset s := by
  rw [wGctl_eq, hval, if_neg Bool.false_ne_true, if_pos hcrst]

theorem wGctl_stay (hcrst : s.regs.crst = false) (hval : val.getLsbD 0 = false) : wGctl val s = s := by
  rw [wGctl_eq, hval, hcrst, if_neg Bool.false_ne_true, if_neg Bool.false_ne_true]

end

/-- A write inside GCTL is one call of W_GCTL, up to the counters, held in reset or not (R156, R159). -/
theorem exec_gctl {i : Instr} {s : State} {val : Word} (h : RowWrite i s (.glob .gctl) val) :
    ∃ c, exec i s = .next (endWrite (wGctl val (s.recount c))) := exec_rowWrite h

/-- LEAVE.RESET after the store of GCTL: the codecs join the state-change bits as they stood before it, the clock starts
from 0 (R157). -/
theorem leaveReset_setGctl (new : Word) (s : State) :
    leaveReset (s.setReg (.glob .gctl) new) =
      (({ s with wcEpoch := s.now }.setReg (.glob .gctl) new).setReg (.glob .statests)
        (s.reg (.glob .statests) ||| (s.cfg.codecMask &&& 0x7FFF).setWidth 32)).setReg (.glob .walclk) 0 := by
  have hstatests : (s.setReg (.glob .gctl) new).regs.rd (.glob .statests) = s.reg (.glob .statests) :=
    RegFile.rd_put_of_ne _ (by decide) new
  rw [leaveReset_eq, hstatests]
  rfl

/-- Settles O23: three of the four cases of W_GCTL, by the old and the new CRST. (`leaveReset` alone is the model's
LEAVE.RESET.) -/
theorem Gctl.leaveReset : Obligations.LeaveReset := by
  intro i s val hwrite
  obtain ⟨c, hexec⟩ := exec_gctl hwrite
  refine ⟨fun hcrst hval => ⟨c, ?_⟩, fun hcrst hval => ⟨c, ?_⟩, fun hcrst hval => ⟨c, ?_⟩⟩
  · rw [hexec, wGctl_leave (s := s.recount c) hcrst hval, leaveReset_setGctl]
    rfl
  · rw [hexec, wGctl_store (s := s.recount c) hcrst hval]
    rfl
  · rw [hexec, wGctl_stay (s := s.recount c) hcrst hval]
    rfl

/-! ### CTRL.RESET (R158) -/

/-- A fold over streams in which each one's part stops its sink if its engine is armed, and leaves the other engines as
they are, makes the stop calls in the order of the streams; the list of calls has the newest first (R283, R305). -/
theorem foldl_stopCalls {f : State → Stream → State}
    (hcalls : ∀ s n, (f s n).out.sinkCalls =
      if (s.dmaOf n).running then .stop n :: s.out.sinkCalls else s.out.sinkCalls)
    (hothers : ∀ s n m, m ≠ n → (f s n).dmaOf m = s.dmaOf m) (l : List Stream) (hl : l.Nodup) :
    ∀ s, (l.foldl f s).out.sinkCalls =
      (l.reverse.filter fun n => (s.dmaOf n).running).map SinkCall.stop ++ s.out.sinkCalls := by
  induction l with
  | nil => exact fun s => rfl
  | cons n rest ih =>
    obtain ⟨hn, hrest⟩ := List.nodup_cons.mp hl
    intro s
    have hsame : (rest.reverse.filter fun m => ((f s n).dmaOf m).running) =
        rest.reverse.filter fun m => (s.dmaOf m).running := by
      refine List.filter_congr fun m hm => ?_
      have hne : m ≠ n := fun h => hn (h ▸ List.mem_reverse.mp hm)
      rw [hothers s n m hne]
    rw [List.foldl_cons, ih hrest, hsame, hcalls, List.reverse_cons, List.filter_append, List.map_append,
      List.append_assoc]
    cases hrun : (s.dmaOf n).running <;> simp [hrun]

/-- The resets of all streams as one update: registers, engines, counters and the stop calls (R158, R286). -/
theorem foldl_disableReset_eq (l : List Stream) :
    ∀ s, ∃ regs dma c, l.foldl disableReset s =
      { s with
        regs := regs, dma := dma, counts := c,
        out := { s.out with sinkCalls := (l.foldl disableReset s).out.sinkCalls } } := by
  induction l with
  | nil => exact fun s => ⟨s.regs, s.dma, s.counts, rfl⟩
  | cons n rest ih =>
    intro s
    obtain ⟨horacle, hcalls⟩ := disableReset_outside n s
    have hfirst := (onlyStream_disableReset s n).eq_update horacle hcalls
    obtain ⟨regs, dma, c, hrest⟩ := ih (disableReset s n)
    refine ⟨regs, dma, c, ?_⟩
    rw [List.foldl_cons]
    generalize (rest.foldl disableReset (disableReset s n)).out.sinkCalls = calls at hrest ⊢
    rw [hrest, hfirst]

/-- CTRL.RESET as one update (R158). -/
theorem ctrlReset_eq (s : State) :
    ∃ dma c, ctrlReset s =
      { s with
        regs := resetRegs, dma := dma, corbBuf := Vector.replicate 256 0, rirbBuf := Vector.replicate 256 0,
        respPending := 0, corbKick := false, counts := c,
        out := { s.out with sinkCalls := stopCalls s ++ s.out.sinkCalls } } := by
  have hcalls : (allStreams.foldl disableReset s).out.sinkCalls = stopCalls s ++ s.out.sinkCalls :=
    foldl_stopCalls (f := disableReset) (fun s n => (disableReset_outside n s).2)
      (fun s n => (onlyStream_disableReset s n).dma) allStreams allStreams_nodup s
  obtain ⟨regs, dma, c, hfold⟩ := foldl_disableReset_eq allStreams s
  have hcore : ctrlReset s = resetCore (allStreams.foldl disableReset s) := rfl
  refine ⟨dma, c, ?_⟩
  rw [hcore, hfold, hcalls]
  rfl

/-- No cause is pending in the reset values, so that the wire falls (R158, R330). -/
theorem resetRegs_line : resetRegs.line = false := by decide +kernel

/-- Settles O22: the write runs CTRL.RESET, and IRQ.EVAL on the reset values lowers the wire; no kick is left for a drain
inside the write. -/
theorem enterReset : Obligations.EnterReset := by
  intro i s val hwrite hcrst hval
  obtain ⟨c, hexec⟩ := exec_gctl hwrite
  have hengines := ctrlReset_dmaOf (s.recount c)
  obtain ⟨dma, c', hreset⟩ := ctrlReset_eq (s.recount c)
  have hkick : (ctrlReset (s.recount c)).corbKick = false := by rw [hreset]
  rw [wGctl_enter (s := s.recount c) hcrst hval, endWrite_of_no_drain (.inl hkick), irqEval_eq, ctrlReset_regs,
    resetRegs_line, hreset] at hexec
  rw [hreset] at hengines
  have hwire : (if s.irqLevel = true then false :: s.out.wire else s.out.wire) =
      if s.irqLevel = false then s.out.wire else false :: s.out.wire := by
    cases s.irqLevel <;> rfl
  refine ⟨_, hexec, resetRegs_rd, hengines, rfl, rfl, rfl, rfl, rfl, ?_⟩
  rw [hwire]
  rfl

end Sys2Proof.Machine
end

section
/-! The ring registers (42_corb_rirb.md R193, R194, R197, R199 to R201): a write inside one of them is what its handler does
but for the counters, and the ignored requests are counted. -/

namespace Sys2Proof.Machine

/-! ### What is counted (10_state.md R63) -/

/-- Reserved bits are not among the ignored ring requests. -/
theorem noteReserved_ringCounts (r : Reg) (written : Word) (s : State) :
    (noteReserved r written s).counts.ringSizeIgnored = s.counts.ringSizeIgnored ∧
    (noteReserved r written s).counts.ringResetIgnored = s.counts.ringResetIgnored := by
  unfold noteReserved
  split
  · exact ⟨rfl, rfl⟩
  · exact ⟨rfl, rfl⟩

/-- A pointer reset request is ignored and counted while the engine is Running (R197). -/
theorem wCorbrp_ringResetIgnored (val : Word) (s : State) :
    (wCorbrp val s).counts.ringResetIgnored =
      s.counts.ringResetIgnored + if val.getLsbD 15 && s.regs.corbRun then 1 else 0 := by
  unfold wCorbrp
  cases val.getLsbD 15 with
  | true => cases s.regs.corbRun <;> rfl
  | false =>
    rw [if_neg Bool.false_ne_true]
    split
    · rw [kickIfRunning_eq]
      rfl
    · rfl

/-- A pointer reset request is ignored and counted while DMAEN is 1 (R200). -/
theorem wRirbwp_ringResetIgnored (val : Word) (s : State) :
    (wRirbwp val s).counts.ringResetIgnored =
      s.counts.ringResetIgnored + if val.getLsbD 15 && s.regs.rirbDmaen then 1 else 0 := by
  unfold wRirbwp
  cases val.getLsbD 15 with
  | true => cases s.regs.rirbDmaen <;> rfl
  | false => rfl

/-- A size is ignored and counted while the engine is Running; the reserved size is not counted here (R199). -/
theorem wCorbsize_ringSizeIgnored (val : Word) (s : State) :
    (wCorbsize val s).counts.ringSizeIgnored = s.counts.ringSizeIgnored + if s.regs.corbRun then 1 else 0 := by
  unfold wCorbsize
  cases s.regs.corbRun with
  | true => rfl
  | false =>
    rw [if_neg Bool.false_ne_true]
    split
    · rfl
    · rfl

/-- A size is ignored and counted while DMAEN is 1; the reserved size is not counted here (R201). -/
theorem wRirbsize_ringSizeIgnored (val : Word) (s : State) :
    (wRirbsize val s).counts.ringSizeIgnored = s.counts.ringSizeIgnored + if s.regs.rirbDmaen then 1 else 0 := by
  unfold wRirbsize
  cases s.regs.rirbDmaen with
  | true => rfl
  | false =>
    rw [if_neg Bool.false_ne_true]
    split
    · rfl
    · rfl

/-! ### A write inside one register -/

/-- A write inside one register is what its handler does, with the counters that the handler leaves; the dispatch before it
counts no ignored ring request (R135, R159). -/
theorem exec_uncounted {i : Instr} {s : State} {r : Reg} {val : Word} {f : State → State} (h : RowWrite i s r val)
    (hf : Uncounted r val f) :
    ∃ c, exec i s = .next (endWrite ((f s).recount c)) ∧
      ∃ c₀ : Counts, c₀.ringSizeIgnored = s.counts.ringSizeIgnored ∧ c₀.ringResetIgnored = s.counts.ringResetIgnored ∧
        (writeHandler r val (s.recount c₀)).counts = c := by
  obtain ⟨hlet, u, lo, w, v, hform, rfl, hin, rfl⟩ := h
  obtain ⟨hsize, hreset⟩ :=
    noteReserved_ringCounts u.register (laneValue v ⟨some u.register, lo.val, lo.val + w.bytes - 1, 0⟩) s
  obtain ⟨c, hhandler⟩ := hf.handler
    (s.recount (noteReserved u.register (laneValue v ⟨some u.register, lo.val, lo.val + w.bytes - 1, 0⟩) s).counts)
  rw [hf.recount] at hhandler
  refine ⟨c, ?_, _, hsize, hreset, congrArg State.counts hhandler⟩
  rw [exec_wr hform, hostWrite_inside hin, writePiece_reg hlet, noteReserved_eq]
  exact congrArg (Host.Outcome.next ∘ endWrite) hhandler

/-- Settles O26: the handler stores the pointer and kicks, whatever it counts. -/
theorem corbwpWrite : Obligations.CorbwpWrite := by
  intro i s val hwrite
  obtain ⟨c, hexec, _⟩ := exec_uncounted hwrite (uncounted_corbwp val)
  exact ⟨c, hexec⟩

/-- Settles O27: the cases of the handler, in which only the ignored request is counted. -/
theorem corbrpWrite : Obligations.CorbrpWrite := by
  intro i s val hwrite
  obtain ⟨c, hexec, c₀, _, hreset, hcounts⟩ := exec_uncounted hwrite (uncounted_corbrp val)
  refine ⟨c, hexec.trans ?_, ?_⟩
  · unfold corbrpWritten
    simp only [State.recount_ite]
    rfl
  · rw [← hcounts, ← hreset]
    exact wCorbrp_ringResetIgnored val (s.recount c₀)

/-- Settles O28: the handler stores CMEIE and RUN, and RUN as written decides the kick. -/
theorem corbctlWrite : Obligations.CorbctlWrite := by
  intro i s val hwrite
  obtain ⟨c, hexec, _⟩ := exec_uncounted hwrite (uncounted_corbctl val)
  exact ⟨c, hexec⟩

/-- Settles O29: each handler ignores the size while its engine is active, and counts it then alone. -/
theorem ringSizeWrites : Obligations.RingSizeWrites := by
  intro i s val
  refine ⟨fun hwrite => ?_, fun hwrite => ?_⟩
  · obtain ⟨c, hexec, c₀, hsize, _, hcounts⟩ := exec_uncounted hwrite (uncounted_corbsize val)
    refine ⟨c, hexec.trans ?_, ?_⟩
    · unfold corbsizeWritten
      rw [State.recount_ite]
      rfl
    · rw [← hcounts, ← hsize]
      exact wCorbsize_ringSizeIgnored val (s.recount c₀)
  · obtain ⟨c, hexec, c₀, hsize, _, hcounts⟩ := exec_uncounted hwrite (uncounted_rirbsize val)
    refine ⟨c, hexec.trans ?_, ?_⟩
    · unfold rirbsizeWritten
      rw [State.recount_ite]
      rfl
    · rw [← hcounts, ← hsize]
      exact wRirbsize_ringSizeIgnored val (s.recount c₀)

/-- Settles O30: the handler acts on a request while DMAEN is 0, and counts it while DMAEN is 1. -/
theorem rirbwpWrite : Obligations.RirbwpWrite := by
  intro i s val hwrite
  obtain ⟨c, hexec, c₀, _, hreset, hcounts⟩ := exec_uncounted hwrite (uncounted_rirbwp val)
  refine ⟨c, hexec.trans ?_, ?_⟩
  · unfold rirbwpWritten
    rw [State.recount_ite]
    rfl
  · rw [← hcounts, ← hreset]
    exact wRirbwp_ringResetIgnored val (s.recount c₀)

end Sys2Proof.Machine
end

section
/-! All that a DRAIN may change (42_corb_rirb.md R204, R211; 45_host_ops.md R302), and a DRAIN that a suppressed response
ends (R205). -/

namespace Sys2Proof.Machine

/-! ### All that a DRAIN may change -/

theorem RingOnly.inResponseRing_iff {s t : State} (h : RingOnly s t) (a : Nat) :
    inResponseRing t a ↔ inResponseRing s a := by
  unfold inResponseRing
  rw [h.rirbBase, h.rirbCap]

/-- From `s` to `t` only the ring engine's words changed, of guest memory only the response ring, and of the answers of
the agents only the codec's were taken. -/
structure RingFrame (s t : State) : Prop where
  ring : RingOnly s t
  outside : ∀ a, ¬ inResponseRing s a → t.mem.byte a = s.mem.byte a
  oracle : t.oracle = { s.oracle with codec := t.oracle.codec, codecSeq := t.oracle.codecSeq }

theorem RingFrame.trans {s t u : State} (h : RingFrame s t) (k : RingFrame t u) : RingFrame s u where
  ring := h.ring.trans k.ring
  outside a ha := (k.outside a (mt (h.ring.inResponseRing_iff a).mp ha)).trans (h.outside a ha)
  oracle := k.oracle.trans (by rw [h.oracle])

/-- A part of the ring engine that leaves guest memory and the agents alone. -/
theorem RingOnly.frame {s t : State} (h : RingOnly s t) (hmem : t.mem = s.mem) (horacle : t.oracle = s.oracle) :
    RingFrame s t := ⟨h, fun _ _ => by rw [hmem], by rw [horacle]⟩

theorem RingFrame.refl (s : State) : RingFrame s s := (RingOnly.refl s).frame rfl rfl

theorem ringFrame_rirbFlush (s : State) : RingFrame s (rirbFlush s) :=
  ⟨ringOnly_rirbFlush s, fun a ha => by rw [rirbFlush_mem, flushedMem_outside ha], by rw [rirbFlush_oracle]⟩

theorem ringFrame_appendResponse (resp : Quad) (s : State) : RingFrame s (appendResponse resp s) := by
  have happended : RingFrame s (appended resp s) := (ringOnly_appended resp s).frame rfl rfl
  rw [appendResponse_eq]
  split
  · exact happended.trans (ringFrame_rirbFlush _)
  · exact happended

theorem ringFrame_codecLookup (s : State) (cmd : Word) : RingFrame s (s.codecLookup cmd).2 :=
  ⟨ringOnly_codecLookup s cmd, fun _ _ => by rw [State.codecLookup_mem], by rw [(codecLookup_eq s cmd).2]⟩

theorem ringFrame_consume (nxt : Nat) (resp : Quad) (s : State) : RingFrame s (consume nxt resp s) :=
  ((ringOnly_setRp s _).frame rfl rfl).trans (ringFrame_appendResponse resp _)

theorem ringFrame_drainLoop (fuel : Nat) : ∀ s, RingFrame s (drainLoop fuel s) := by
  induction fuel with
  | zero => exact RingFrame.refl
  | succ fuel ih =>
    intro s
    have hlookup : RingFrame s (nextLookup s).2 := ringFrame_codecLookup s _
    rw [drainLoop_succ]
    split
    · exact RingFrame.refl s
    · split
      · exact hlookup
      · exact (hlookup.trans (ringFrame_consume _ _ _)).trans (ih _)

theorem ringFrame_drainBody (s : State) : RingFrame s (drainBody s) := by
  have hloop : RingFrame s (drainLoop 256 (mirrorCorb s)) :=
    ((ringOnly_mirrorCorb s).frame rfl rfl).trans (ringFrame_drainLoop 256 _)
  refine hloop.trans ?_
  unfold drainBody flushIfEmpty
  split
  · exact ringFrame_rirbFlush _
  · exact RingFrame.refl _

/-- What the ring engine does, as one update of the state. -/
theorem RingFrame.eq_update {s t : State} (h : RingFrame s t) :
    t = { s with
          regs := t.regs, corbBuf := t.corbBuf, rirbBuf := t.rirbBuf, respPending := t.respPending, mem := t.mem,
          oracle := { s.oracle with codec := t.oracle.codec, codecSeq := t.oracle.codecSeq } } := by
  obtain ⟨hring, _, horacle⟩ := h
  rw [← horacle, ← hring.cfg, ← hring.dma, ← hring.wcEpoch, ← hring.now, ← hring.counts, ← hring.saved, ← hring.pending,
    ← hring.irqLevel, ← hring.out, ← hring.corbKick]

/-- DRAIN where no kick is pending (R302). -/
theorem exec_drain_refused {s : State} (h : s.corbKick = false) : exec .drain s = .refused .drainNotEnabled := by
  rw [exec_eq_runForm]
  exact if_neg (ne_true_of_eq_false h)

/-- Settles O39: the guards of DRAIN, and the frame of its body followed by IRQ.EVAL. -/
theorem drainOutcome : Obligations.DrainOutcome := by
  intro s
  refine ⟨exec_drain_refused, fun hkick hidle => ?_, fun hkick hrun hrst => ?_⟩
  · rw [exec_drain hkick, drain_eq, if_pos hidle]
  · have hframe := ringFrame_drainBody { s with corbKick := false }
    have heq := hframe.eq_update
    refine ⟨_, exec_drain_running hkick hrun hrst, ?_⟩
    rw [irqEval_eq]
    exact ⟨hframe.ring.corbKick, rfl, by rw [heq], hframe.ring.regs, hframe.outside⟩

/-! ### A suppressed response (R205) -/

/-- From `s` to `u` no flush took place, and `k` responses were added to those pending. -/
def Accumulated (s : State) (k : Nat) (u : State) : Prop := Unflushed s u ∧ u.respPending = s.respPending + k

/-- A response that does not reach the threshold is added to those pending (R206). -/
theorem Accumulated.succ {s u : State} {k : Nat} (h : Accumulated s k u) (hring : RingOnly s u)
    (hbelow : s.respPending + (k + 1) < s.regs.threshold) (resp : Quad) :
    Accumulated s (k + 1) (consume (nextCommand u) resp (nextLookup u).2) := by
  obtain ⟨⟨hmem, hsts⟩, hpending⟩ := h
  obtain ⟨_, _, hrespPending, hmemory⟩ := readyToAppend_fields u
  have hthreshold : (readyToAppend u).regs.threshold = s.regs.threshold :=
    (hring.trans (ringOnly_readyToAppend u)).threshold
  have hconsume : consume (nextCommand u) resp (nextLookup u).2 = appended resp (readyToAppend u) := by
    change appendResponse resp (readyToAppend u) = _
    rw [appendResponse_eq, hthreshold, hrespPending, hpending, if_neg (by omega)]
  have hflags : (appended resp (readyToAppend u)).regs.rd (.glob .rirbsts) = u.regs.rd (.glob .rirbsts) :=
    (RegFile.rd_put_of_ne _ (by decide) _).trans (readyToAppend_rd (by decide))
  rw [hconsume]
  refine ⟨⟨hmemory.trans hmem, hflags.trans hsts⟩, ?_⟩
  change (readyToAppend u).respPending + 1 = _
  rw [hrespPending, hpending, Nat.add_assoc]

/-- What the loop of a DRAIN started in `s` has reached after `k` commands, with the responses still pending where they do
not reach the threshold. -/
structure DrainedBelow (s : State) (k : Nat) (u : State) : Prop where
  drained : Drained s k u
  accumulated : s.respPending + k < s.regs.threshold → Accumulated s k u

theorem drainedBelow_mirrorCorb {s : State} (hok : s.regs.pointersOk) : DrainedBelow s 0 (mirrorCorb s) :=
  ⟨drained_mirrorCorb hok, fun _ => (drained_mirrorCorb hok).start rfl⟩

theorem DrainedBelow.succ {s u : State} {k : Nat} (h : DrainedBelow s k u) :
    DrainedBelow s (k + 1) (consume (nextCommand u) (responseOf (nextLookup u).1) (nextLookup u).2) :=
  ⟨h.drained.succ, fun hbelow => (h.accumulated (by omega)).succ h.drained.ring hbelow _⟩

/-- The loop ends with the lookup of the first command whose response is suppressed (R205). -/
theorem drainLoop_suppressed {s : State} {k : Nat} (hok : s.regs.pointersOk) (hk : k < outstanding s)
    (hbefore : ∀ j < k, suppressedAt s j = false) (hsup : suppressedAt s k = true) :
    ∀ (fuel j : Nat) (u : State), DrainedBelow s j u → j ≤ k → k < j + fuel →
      ∃ t, DrainedBelow s k t ∧ drainLoop fuel u = (nextLookup t).2 := by
  intro fuel
  induction fuel with
  | zero => intro j u _ hle hfuel; omega
  | succ fuel ih =>
    intro j u h hle hfuel
    have hmore : u.regs.corbRp ≠ u.regs.corbWp :=
      mt (h.drained.corbRp_eq_corbWp_iff hok (by omega)).mp (by omega)
    rw [drainLoop_succ, if_neg hmore, h.drained.suppressed_eq]
    rcases Nat.lt_or_eq_of_le hle with hlt | rfl
    · rw [hbefore j hlt, if_neg Bool.false_ne_true]
      exact ih (j + 1) _ h.succ hlt (by omega)
    · rw [hsup, if_pos rfl]
      exact ⟨u, h, rfl⟩

/-- The body of a DRAIN that meets a suppressed response is its loop: the command is still there, so nothing is flushed at
the end (R205, R208). -/
theorem drainBody_suppressed {s : State} {k : Nat} (hok : s.regs.pointersOk) (hk : k < outstanding s)
    (hbefore : ∀ j < k, suppressedAt s j = false) (hsup : suppressedAt s k = true) :
    ∃ u, DrainedBelow s k u ∧ drainBody s = (nextLookup u).2 := by
  obtain ⟨u, h, hloop⟩ := drainLoop_suppressed hok hk hbefore hsup 256 0 _ (drainedBelow_mirrorCorb hok) (Nat.zero_le k)
    (by have := outstanding_le s; omega)
  have hmore : u.regs.corbRp ≠ u.regs.corbWp :=
    mt (h.drained.corbRp_eq_corbWp_iff hok (Nat.le_of_lt hk)).mp (Nat.ne_of_lt hk)
  refine ⟨u, h, ?_⟩
  unfold drainBody flushIfEmpty
  rw [hloop, nextLookup, State.codecLookup_regs, if_neg (fun hempty => hmore hempty.1)]

/-- Settles O41: the loop stops right after the lookup of the suppressed command, and DRAIN after the loop. -/
theorem drainSuppressed : Obligations.DrainSuppressed := by
  intro s k hkick hrun hrst hok hk hbefore hsup
  obtain ⟨u, ⟨hdrained, haccumulated⟩, hbody⟩ :=
    drainBody_suppressed (s := { s with corbKick := false }) hok hk hbefore hsup
  have horacle : (nextLookup u).2.oracle =
      { u.oracle with codec := u.oracle.codec.drop 1, codecSeq := u.oracle.codecSeq + 1 } := (codecLookup_eq u _).2
  refine ⟨_, exec_drain_running hkick hrun hrst, ?_⟩
  rw [hbody, State.reg_eq, irqEval_regs, irqEval_oracle, irqEval_respPending, irqEval_mem, horacle, nextLookup,
    State.codecLookup_regs, State.codecLookup_respPending, State.codecLookup_mem, hdrained.codec, hdrained.codecSeq,
    List.drop_drop]
  refine ⟨hdrained.corbRp, hdrained.rirbWp, rfl, rfl, fun hbelow => ?_⟩
  obtain ⟨⟨hmem, hsts⟩, hpending⟩ := haccumulated hbelow
  exact ⟨hpending, hmem, hsts⟩

end Sys2Proof.Machine
end

section
/-! A write inside one stream register (43_stream_registers.md R231 to R236, 44_stream_dma.md R262, R263, R283, R286;
45_host_ops.md R305): one call of its handler, what SDCTL then leaves in each of its cases, and what is counted. -/

namespace Sys2Proof.Machine

/-! ### What is counted (10_state.md R63) -/

/-- Reserved bits are not among the dropped writes, nor among the counters of the streams. -/
theorem noteReserved_streamCounts (r : Reg) (written : Word) (s : State) :
    (noteReserved r written s).counts.droppedWhileRunning = s.counts.droppedWhileRunning ∧
    (noteReserved r written s).counts.streams = s.counts.streams := by
  unfold noteReserved
  split
  · exact ⟨rfl, rfl⟩
  · exact ⟨rfl, rfl⟩

theorem streamCounts_countXrun (n : Stream) (s : State) :
    (s.countXrun n).streamCounts n = { s.streamCounts n with xrun := (s.streamCounts n).xrun + 1 } :=
  Vector.getElem_set_self n.isLt

/-- SD.DISABLE counts the bytes that an armed engine had left in its ring as one xrun (R283, R284). -/
theorem sdDisable_xrun (n : Stream) (s : State) :
    ((sdDisable n s).streamCounts n).xrun =
      (s.streamCounts n).xrun + if (s.dmaOf n).running && decide ((s.dmaOf n).ring ≠ []) then 1 else 0 := by
  cases hrun : (s.dmaOf n).running with
  | false =>
    rw [sdDisable_of_not_running hrun]
    rfl
  | true =>
    unfold sdDisable
    dsimp only
    rw [if_pos hrun]
    by_cases hring : (s.dmaOf n).ring = []
    · rw [if_pos hring, hring]
      rfl
    · rw [if_neg hring, Bool.true_and, if_pos (decide_eq_true hring)]
      exact congrArg StreamCounts.xrun (streamCounts_countXrun n _)

/-! ### One call of the handler (R135) -/

/-- A write inside one register is one call of its handler; the dispatch before it counts no dropped write and leaves the
counters of the streams (R135, R159). -/
theorem exec_rowWrite_recount {i : Instr} {s : State} {r : Reg} {val : Word} (h : RowWrite i s r val) :
    ∃ c : Counts, exec i s = .next (endWrite (writeHandler r val (s.recount c))) ∧
      c.droppedWhileRunning = s.counts.droppedWhileRunning ∧ c.streams = s.counts.streams := by
  obtain ⟨hlet, u, lo, w, v, hform, rfl, hin, rfl⟩ := h
  refine ⟨_, ?_,
    noteReserved_streamCounts u.register (laneValue v ⟨some u.register, lo.val, lo.val + w.bytes - 1, 0⟩) s⟩
  rw [exec_wr hform, hostWrite_inside hin, writePiece_reg hlet, noteReserved_eq]
  rfl

/-! ### SDSTS and the guarded registers (R235, R236, R323) -/

/-- Settles O35: W_SDSTS neither counts nor looks at the counters. -/
theorem statusWrite : Obligations.StatusWrite := by
  intro i s n val hwrite
  obtain ⟨c, hexec, _⟩ := exec_rowWrite_recount hwrite
  have hhandler : writeHandler (.str .sts n) val (s.recount c) = wSdsts n val (s.recount c) := rfl
  rw [hhandler, wSdsts_eq] at hexec
  exact ⟨c, hexec⟩

theorem writeHandler_guarded {k : SReg} (hk : k ∈ guardedKinds) (n : Stream) (val : Word) (s : State) :
    writeHandler (.str k n) val s = wSdguard n (.str k n) val s := by
  cases k with
  | cbl | lvi | fifow | fmt | bdpl | bdpu => rfl
  | ctl | sts | lpib | fifos => exact absurd hk (by decide)

section
variable {n : Stream} {s : State}

theorem wSdguard_of_run (hrun : s.regs.run n = true) (r : Reg) (val : Word) :
    wSdguard n r val s = (s.raise .timingViolation).countDroppedWhileRunning := if_pos hrun

theorem wSdguard_of_not_run (hrun : s.regs.run n = false) (r : Reg) (val : Word) :
    wSdguard n r val s = wPlain r val s := if_neg (Bool.eq_false_iff.mp hrun)

end

/-- Settles O36: RUN decides between W_PLAIN and a drop, and a drop alone is counted. -/
theorem guardedWrite : Obligations.GuardedWrite := by
  intro i s n k val hwrite hk
  obtain ⟨c, hexec, hdropped, _⟩ := exec_rowWrite_recount hwrite
  rw [writeHandler_guarded hk] at hexec
  cases hrun : s.regs.run n with
  | true =>
    rw [wSdguard_of_run (s := s.recount c) hrun] at hexec
    exact ⟨_, hexec, congrArg (· + 1) hdropped⟩
  | false =>
    rw [wSdguard_of_not_run (s := s.recount c) hrun] at hexec
    exact ⟨c, hexec, hdropped⟩

/-! ### The cases of SDCTL (R231 to R233) -/

/-- A write of SDCTL is one call of W_SDCTL, which keeps to its stream. -/
theorem exec_sdctl {i : Instr} {s : State} {n : Stream} {val : Word} (hwrite : RowWrite i s (.str .ctl n) val) :
    ∃ c : Counts, exec i s = .next (endWrite (wSdctl n val (s.recount c))) ∧
      OnlyStream n s (wSdctl n val (s.recount c)) ∧ c.streams = s.counts.streams := by
  obtain ⟨c, hexec, _, hstreams⟩ := exec_rowWrite_recount hwrite
  exact ⟨c, hexec, (onlyStream_recount n s c).trans (onlyStream_wSdctl n val _), hstreams⟩

/-- In Reset already, a write with SRST set holds the stream there (R231, R233). -/
theorem wSdctl_stayInReset {n : Stream} {val : Word} {s : State} (hsrst : val.getLsbD 0 = true)
    (hheld : s.regs.srst n = true) :
    wSdctl n val s = (s.setReg (.str .ctl n) 0x040001).setDma n { s.dmaOf n with inReset := true } := by
  rw [wSdctl_of_srst hsrst]
  unfold holdStreamReset
  dsimp only
  rw [if_pos hheld]
  rfl

/-- Settles O31: the handler's frame, and what entering Reset leaves of the stream; in Reset, the handler's one update. -/
theorem streamReset : Obligations.StreamReset := by
  intro i s n val hwrite hsrst
  obtain ⟨c, hexec, honly, _⟩ := exec_sdctl hwrite
  refine ⟨fun hheld => ?_, fun hheld => ?_⟩
  · obtain ⟨hregs, hdma, horacle, hcalls⟩ := wSdctl_enterReset (s := s.recount c) hsrst hheld
    refine ⟨_, hexec, honly.eq_update horacle hcalls, hregs, fun m => ?_⟩
    split
    · next hm => rw [hm, hdma]
    · next hm => exact honly.dma m hm
  · rw [wSdctl_stayInReset (s := s.recount c) hsrst hheld] at hexec
    exact ⟨c, hexec⟩

/-- The record of an engine that leaves Reset and is disabled, by whether it was armed (R233, R283). -/
theorem Dma.disabled_eq (d : Dma) :
    { d with inReset := false, running := false, ring := if d.running then [] else d.ring } =
      if d.running then { d with inReset := false, running := false, ring := [] } else { d with inReset := false } := by
  obtain ⟨running⟩ := d
  cases running with
  | true => rfl
  | false => rfl

/-- Settles O32: with RUN as it stands the handler stores; with RUN cleared it also disables the engine. -/
theorem streamStop : Obligations.StreamStop := by
  intro i s n val hwrite hsrst
  obtain ⟨c, hexec, _, hstreams⟩ := exec_sdctl hwrite
  refine ⟨fun hrun => ?_, fun hrun hrunning => ?_⟩
  · rw [wSdctl_of_same (s := s.recount c) hsrst hrun] at hexec
    exact ⟨c, hexec⟩
  · rw [wSdctl_of_stop (s := s.recount c) hsrst hrun hrunning] at hexec
    obtain ⟨c', hdisable⟩ := sdDisable_storeSdctl n (val &&& 0xFF001F) (s.recount c)
    refine ⟨_, hexec, ?_, fun m => ?_, ?_⟩
    · rw [hdisable]
      rfl
    · rw [hdisable, State.dmaOf_setDma, Dma.disabled_eq]
      rfl
    · have hcounts : (storeSdctl n (val &&& 0xFF001F) (s.recount c)).streamCounts n = s.streamCounts n :=
        congrArg (·.get n) hstreams
      rw [sdDisable_xrun, hcounts, storeSdctl_dmaOf]
      rfl

/-- Settles O33: the handler's frame, and what an accepted start leaves of the stream. -/
theorem streamStart : Obligations.StreamStart := by
  intro i s n val bytes bdl fmt hwrite hsrst hrun hstopped hread hlist hok
  obtain ⟨c, hexec, honly, _⟩ := exec_sdctl hwrite
  obtain ⟨hregs, hdma, horacle, hcalls⟩ :=
    wSdctl_started (s := s.recount c) hsrst hrun hstopped hread hlist hok
  refine ⟨_, hexec, honly.eq_update horacle hcalls, hregs, fun m => ?_⟩
  split
  · next hm =>
    rw [hm, hdma]
    rfl
  · next hm => exact honly.dma m hm

end Sys2Proof.Machine
end

section
/-! A refused start, the format codes and the groups of a list (44_stream_dma.md R262 to R269): what a refusal counts,
which codes decode and to what, and how the groups cut a list. -/

namespace Sys2Proof.Machine

/-! ### A refused start (R262 to R264) -/

theorem streamCounts_countStartRefused (n : Stream) (s : State) :
    (s.countStartRefused n).streamCounts n =
      { s.streamCounts n with startRefused := (s.streamCounts n).startRefused + 1 } :=
  Vector.getElem_set_self n.isLt

/-- Raising a class of error leaves the counters of the streams. -/
theorem streamCounts_raiseTimes (n : Stream) (c : ErrorClass) (k : Nat) :
    ∀ s : State, (s.raiseTimes c k).streamCounts n = s.streamCounts n := by
  induction k with
  | zero => exact fun _ => rfl
  | succ k ih => exact fun s => ih (s.raise c)

theorem streamCounts_refuseStart (n : Stream) (s : State) :
    ((refuseStart n s).streamCounts n).startRefused = (s.streamCounts n).startRefused + 1 :=
  congrArg StreamCounts.startRefused (streamCounts_countStartRefused n _)

/-- A start that is not accepted is counted once (R262). -/
theorem sdStart_startRefused {n : Stream} {s : State}
    (h : ∀ bytes, fetchBdl s n = some bytes → startFormat s n (decodeBdl bytes (s.regs.entryCount n)) = none) :
    ((sdStart n s).streamCounts n).startRefused = (s.streamCounts n).startRefused + 1 := by
  cases hfetch : fetchBdl s n with
  | none =>
    unfold sdStart startFetch
    rw [fetchBdl_startPosition, hfetch]
    exact streamCounts_refuseStart n _
  | some bytes =>
    have hloaded : (loadBdl n bytes (startPosition s n)).streamCounts n = s.streamCounts n :=
      streamCounts_raiseTimes n _ _ (startPosition s n)
    rw [sdStart_fetched hfetch]
    unfold startLoaded
    rw [bdl_loaded, startFormat_after_load, h bytes hfetch, ← hloaded]
    exact streamCounts_refuseStart n _

/-- A write of SDCTL with a start that is refused, for either cause, counts it (R262 to R264). -/
theorem wSdctl_countsRefusal {n : Stream} {val : Word} {s : State} {dese : Bool} (hsrst : val.getLsbD 0 = false)
    (hrun : val.getLsbD 1 = true) (hstopped : s.regs.run n = false)
    (hunread : dese = true → s.mem.read (s.regs.bdlBase n) (16 * s.regs.entryCount n) = none)
    (hunfit : dese = false → ∃ bytes bdl, s.mem.read (s.regs.bdlBase n) (16 * s.regs.entryCount n) = some bytes ∧
      ListRead s.regs n bytes bdl ∧ ¬ ∃ fmt, StartOk s n bdl fmt) :
    ((wSdctl n val s).streamCounts n).startRefused = (s.streamCounts n).startRefused + 1 := by
  rw [wSdctl_of_start hsrst hrun hstopped]
  refine sdStart_startRefused fun bytes hfetch => ?_
  rw [storeSdctl_fetchBdl] at hfetch
  rw [storeSdctl_entryCount, storeSdctl_startFormat, startFormat_eq_none_iff]
  cases dese with
  | true => exact absurd (hfetch.symm.trans (hunread rfl)) (by simp)
  | false =>
    obtain ⟨bytes', bdl, hread, hlist, hno⟩ := hunfit rfl
    obtain rfl : bytes' = bytes := Option.some.inj (hread.symm.trans hfetch)
    exact hlist.eq_decodeBdl ▸ hno

/-- Settles O34: the handler's frame, and what a refused start leaves of the stream and counts. -/
theorem startRefused : Obligations.StartRefused := by
  intro i s n val hwrite hsrst hrun hstopped dese hunread hunfit
  obtain ⟨c, hexec, honly, hstreams⟩ := exec_sdctl hwrite
  obtain ⟨hregs, ⟨bdl, hdma⟩, horacle, hout⟩ :=
    wSdctl_startRefused (s := s.recount c) hsrst hrun hstopped hunread hunfit
  have hcount := wSdctl_countsRefusal (s := s.recount c) hsrst hrun hstopped hunread hunfit
  have hbefore : (s.recount c).streamCounts n = s.streamCounts n := congrArg (·.get n) hstreams
  refine ⟨_, hexec, honly.eq_update horacle (congrArg Outputs.sinkCalls hout), hregs, honly.dma, ?_⟩
  rw [hdma, hcount, hbefore]
  exact ⟨rfl, rfl, rfl, rfl, rfl, rfl, rfl, rfl⟩

/-! ### Format codes (R268, R269) -/

/-- The table of R268 for the BITS field. -/
theorem sampleBits_table : ∀ k ≤ 4, [8, 16, 20, 24, 32][k]? = some (sampleBits k) := by decide

theorem sampleBytes_pos (bits : Nat) : 1 ≤ sampleBytes bits := by
  unfold sampleBytes
  split
  · decide
  · split <;> decide

theorem decodeFmt_invalid {v : Word} (h : 3 < (v.extractLsb' 11 3).toNat ∨ 4 < (v.extractLsb' 4 3).toNat) :
    decodeFmt v = none := if_pos h

/-- The format of a valid code (R268). -/
def fmtOf (v : Word) : Fmt where
  base := if v.getLsbD 14 then 44100 else 48000
  mult := (v.extractLsb' 11 3).toNat + 1
  div := (v.extractLsb' 8 3).toNat + 1
  bits := sampleBits (v.extractLsb' 4 3).toNat
  channels := (v.extractLsb' 0 4).toNat + 1
  bytesPerSample := sampleBytes (sampleBits (v.extractLsb' 4 3).toNat)

theorem decodeFmt_valid {v : Word} (hmult : (v.extractLsb' 11 3).toNat ≤ 3) (hbits : (v.extractLsb' 4 3).toNat ≤ 4) :
    decodeFmt v = some (fmtOf v) := if_neg (by omega)

/-- The divisor of R269 is at least the slower base rate: no other factor is 0. -/
theorem fmtOf_divisor (v : Word) :
    44100 ≤ (fmtOf v).base * (fmtOf v).mult * (fmtOf v).channels * (fmtOf v).bytesPerSample := by
  have hbase : 44100 ≤ (fmtOf v).base := by
    unfold fmtOf
    dsimp only
    split <;> decide
  exact Nat.mul_le_mul (Nat.mul_le_mul (Nat.mul_le_mul hbase (Nat.succ_pos _)) (Nat.succ_pos _)) (sampleBytes_pos _)

/-- Settles O43: the code is valid or not, and a valid one has the fields of `fmtOf`. -/
theorem formatCode : Obligations.FormatCode := by
  refine ⟨fun v => ⟨decodeFmt_invalid, fun hmult hbits => ?_⟩, fun cfg f => ⟨fun b => rfl, ?_⟩⟩
  · exact ⟨fmtOf v, decodeFmt_valid hmult hbits, rfl, rfl, rfl, sampleBits_table _ hbits, rfl, rfl, rfl,
      fmtOf_divisor v⟩
  · unfold tickCount
    rw [Nat.zero_mul, Nat.zero_mul, Nat.zero_div]

/-! ### The groups of a list (R266, R267) -/

/-- A group of the list `bdl` (R266): its entries are in the list and its bytes are theirs, IOC is clear in all of them
but the last, and set in that one unless the list ends there. -/
structure Group.Cuts (bdl : List Bdle) (g : Group) : Prop where
  count : 1 ≤ g.count
  inside : g.first + g.count ≤ bdl.length
  bytes : g.bytes = totalLen ((bdl.drop g.first).take g.count)
  inner : ∀ i e, g.first ≤ i → i + 1 < g.first + g.count → bdl[i]? = some e → e.ioc = false
  last : g.first + g.count = bdl.length ∨ ∃ e, bdl[g.first + g.count - 1]? = some e ∧ e.ioc = true

/-- Where the gathering of R266 stands in the list `bdl`: `count` entries without IOC, of `bytes` bytes, are gathered
from index `first` on, and `l` is still to come. -/
structure Gathered (bdl : List Bdle) (first count bytes : Nat) (l : List Bdle) : Prop where
  rest : bdl.drop (first + count) = l
  length : first + count + l.length = bdl.length
  bytes : bytes = totalLen ((bdl.drop first).take count)
  inner : ∀ i e, first ≤ i → i < first + count → bdl[i]? = some e → e.ioc = false

theorem totalLen_take_succ {l : List Bdle} {k : Nat} {e : Bdle} (h : l[k]? = some e) :
    totalLen (l.take (k + 1)) = totalLen (l.take k) + e.len.toNat := by
  unfold totalLen
  rw [List.take_add_one, h]
  simp

section
variable {bdl l : List Bdle} {first count bytes : Nat} {e : Bdle}

/-- The entry to come is the one behind those gathered. -/
theorem Gathered.next (h : Gathered bdl first count bytes (e :: l)) : bdl[first + count]? = some e := by
  have hhead := congrArg (·[0]?) h.rest
  simpa using hhead

theorem Gathered.bytes_next (h : Gathered bdl first count bytes (e :: l)) :
    bytes + e.len.toNat = totalLen ((bdl.drop first).take (count + 1)) := by
  rw [totalLen_take_succ (List.getElem?_drop.trans h.next), h.bytes]

theorem Gathered.rest_next (h : Gathered bdl first count bytes (e :: l)) : bdl.drop (first + count + 1) = l := by
  rw [← List.drop_drop, h.rest]
  rfl

/-- An entry without IOC is gathered. -/
theorem Gathered.gather (h : Gathered bdl first count bytes (e :: l)) (hioc : e.ioc = false) :
    Gathered bdl first (count + 1) (bytes + e.len.toNat) l := by
  refine ⟨h.rest_next, ?_, h.bytes_next, fun i d hle hlt hd => ?_⟩
  · have hlen := h.length
    rw [List.length_cons] at hlen
    omega
  · rcases Nat.lt_or_ge i (first + count) with hi | hi
    · exact h.inner i d hle hi hd
    · obtain rfl : i = first + count := by omega
      obtain rfl : e = d := Option.some.inj (h.next.symm.trans hd)
      exact hioc

/-- Behind an entry with IOC the gathering begins anew. -/
theorem Gathered.anew (h : Gathered bdl first count bytes (e :: l)) :
    Gathered bdl (first + count + 1) 0 0 l := by
  refine ⟨h.rest_next, ?_, by simp [totalLen], fun i _ hle hlt => absurd hle (by omega)⟩
  have hlen := h.length
  rw [List.length_cons] at hlen
  omega

/-- An entry with IOC closes the group. -/
theorem Gathered.cuts (h : Gathered bdl first count bytes (e :: l)) (hioc : e.ioc = true) :
    Group.Cuts bdl ⟨first, count + 1, bytes + e.len.toNat⟩ := by
  refine ⟨Nat.succ_pos _, ?_, h.bytes_next, fun i d hle hlt => h.inner i d hle (by dsimp only at hlt; omega),
    .inr ⟨e, h.next, hioc⟩⟩
  have hlen := h.length
  rw [List.length_cons] at hlen
  dsimp only
  omega

/-- The end of the list closes a group that has gathered an entry. -/
theorem Gathered.cuts_end (h : Gathered bdl first count bytes []) (hcount : count ≠ 0) :
    Group.Cuts bdl ⟨first, count, bytes⟩ :=
  ⟨Nat.pos_of_ne_zero hcount, h.length.le, h.bytes, fun i d hle hlt => h.inner i d hle (Nat.lt_of_succ_lt hlt),
    .inl h.length⟩

end

theorem groupsFrom_cuts {bdl : List Bdle} (l : List Bdle) : ∀ first count bytes : Nat,
    Gathered bdl first count bytes l → ∀ g ∈ groupsFrom first count bytes l, g.Cuts bdl := by
  induction l with
  | nil =>
    intro first count bytes h g hg
    unfold groupsFrom at hg
    split at hg
    · cases hg
    · next hcount =>
      obtain rfl := List.mem_singleton.mp hg
      exact h.cuts_end hcount
  | cons e l ih =>
    intro first count bytes h g hg
    unfold groupsFrom at hg
    split at hg
    · next hioc =>
      rcases List.mem_cons.mp hg with rfl | hg
      · exact h.cuts hioc
      · exact ih _ _ _ h.anew g hg
    · next hioc => exact ih _ _ _ (h.gather (Bool.eq_false_iff.mpr hioc)) g hg

theorem groups_cuts {bdl : List Bdle} {g : Group} (h : g ∈ groups bdl) : g.Cuts bdl :=
  groupsFrom_cuts bdl 0 0 0 ⟨rfl, by simp, by simp [totalLen], fun i _ _ hlt => absurd hlt (Nat.not_lt_zero i)⟩ g h

/-- The last group ends with the list (R266). -/
theorem groupsFrom_ends (l : List Bdle) : ∀ (first count bytes k : Nat) (g : Group),
    (groupsFrom first count bytes l)[k]? = some g → (groupsFrom first count bytes l)[k + 1]? = none →
    g.first + g.count = first + count + l.length := by
  induction l with
  | nil =>
    intro first count bytes k g hg _
    unfold groupsFrom at hg
    split at hg
    · cases hg
    · obtain rfl := List.mem_singleton.mp (List.mem_of_getElem? hg)
      rfl
  | cons e l ih =>
    intro first count bytes k g hg hnone
    unfold groupsFrom at hg hnone
    rw [List.length_cons]
    split at hg
    · next hioc =>
      rw [if_pos hioc, List.getElem?_cons_succ] at hnone
      cases k with
      | zero =>
        obtain rfl : _ = g := by simpa using hg
        have hl : ¬ 0 < 0 + l.length := by
          intro hl
          obtain ⟨g', rest, hgroups, _⟩ := groupsFrom_head l (first + count + 1) 0 0 hl
          rw [hgroups] at hnone
          cases hnone
        dsimp only
        omega
      | succ k =>
        rw [List.getElem?_cons_succ] at hg
        have hend := ih _ _ _ k g hg hnone
        omega
    · next hioc =>
      rw [if_neg hioc] at hnone
      have hend := ih _ _ _ k g hg hnone
      omega

theorem groups_ends {bdl : List Bdle} {k : Nat} {g : Group} (hg : (groups bdl)[k]? = some g)
    (hnone : (groups bdl)[k + 1]? = none) : g.first + g.count = bdl.length := by
  have hend := groupsFrom_ends bdl 0 0 0 k g hg hnone
  omega

theorem groups_first {bdl : List Bdle} {g : Group} (hg : (groups bdl)[0]? = some g) : g.first = 0 := by
  have hcuts := groups_cuts (List.mem_of_getElem? hg)
  have hcount := hcuts.count
  have hinside := hcuts.inside
  obtain ⟨g', rest, hgroups, hfirst⟩ := groupsFrom_head bdl 0 0 0 (by omega)
  obtain rfl : g' = g := by simpa [groups, hgroups] using hg
  exact hfirst

/-- A list that is not empty has a group, and every group has an entry of its own. -/
theorem length_groups {bdl : List Bdle} (h : bdl ≠ []) :
    1 ≤ (groups bdl).length ∧ (groups bdl).length ≤ bdl.length := by
  have hpos := List.length_pos_iff.mpr h
  obtain ⟨g, rest, hgroups, _⟩ := groupsFrom_head bdl 0 0 0 (by omega)
  have hone : ∀ c ∈ (groups bdl).map (·.count), 1 ≤ c := by
    intro c hc
    obtain ⟨g, hg, rfl⟩ := List.mem_map.mp hc
    exact (groups_cuts hg).count
  have hsum : ((groups bdl).map (·.count)).sum = 0 + bdl.length := sum_count_groupsFrom bdl 0 0 0
  have hle := List.length_le_sum_of_one_le _ hone
  rw [List.length_map] at hle
  refine ⟨?_, by omega⟩
  unfold groups
  rw [hgroups]
  exact Nat.succ_pos _

/-! ### The step of a group (R267) -/

theorem splitPeriod_zero (cfg : Config) : splitPeriod cfg 0 = (0, 1) := by
  unfold splitPeriod
  exact if_neg fun h => h.1 rfl

/-- With no loop count listed nothing is split. -/
theorem splitPeriod_unlisted {cfg : Config} (h : cfg.splits = []) (g : Nat) : splitPeriod cfg g = (g, 1) := by
  have hone : listedLoops cfg g = 1 := by
    unfold listedLoops
    rw [h]
    rfl
  unfold splitPeriod
  dsimp only
  rw [hone, Nat.div_one, ite_self]

/-- What R267 says of the step of a group. -/
theorem stepOf_law (cfg : Config) (f : Fmt) (g : Group) :
    let st := stepOf cfg f g
    st.first = g.first ∧ st.count = g.count ∧ st.ticks = tickCount cfg st.bytes f ∧ st.bytes * st.loops = g.bytes ∧
    1 ≤ st.loops ∧ (g.bytes = 0 → st.loops = 1) ∧ (cfg.splits = [] → st.bytes = g.bytes ∧ st.loops = 1) := by
  refine ⟨rfl, rfl, rfl, stepOf_bytes_mul_loops cfg f g, splitPeriod_loops_pos cfg g.bytes, fun hzero => ?_,
    fun hnone => ?_⟩
  · exact congrArg Prod.snd ((congrArg (splitPeriod cfg) hzero).trans (splitPeriod_zero cfg))
  · have hsplit := splitPeriod_unlisted hnone g.bytes
    exact ⟨congrArg Prod.fst hsplit, congrArg Prod.snd hsplit⟩

/-- Settles O44: every group cuts the list, by induction over its entries, and the step of a group follows R267. -/
theorem grouping : Obligations.Grouping := by
  intro cfg bdl f
  refine ⟨fun k g hg => ?_, length_groups, List.length_map _, fun k g st hg hst => ?_⟩
  · obtain ⟨hcount, hinside, hbytes, hinner, hlast⟩ := groups_cuts (List.mem_of_getElem? hg)
    refine ⟨hcount, hinside, hbytes, hinner, hlast, fun hk => ?_, fun g' hg' => ?_, groups_ends hg⟩
    · exact groups_first (hk ▸ hg)
    · exact groupsFrom_consecutive bdl 0 0 0 k g g' hg hg'
  · rw [buildSchedule_getElem?, hg] at hst
    obtain rfl : stepOf cfg f g = st := Option.some.inj hst
    exact stepOf_law cfg f g

end Sys2Proof.Machine
end

section
/-! POWEROFF (44_stream_dma.md R283, 45_host_ops.md R312): every engine is disabled once. -/

namespace Sys2Proof.Machine

/-- SD.DISABLE changes engines, the counters of the streams and the calls to the sinks alone (R283). -/
theorem sdDisable_update (n : Stream) (s : State) :
    ∃ dma streams calls, sdDisable n s =
      { s with
        dma := dma, counts := { s.counts with streams := streams }, out := { s.out with sinkCalls := calls } } := by
  unfold sdDisable
  dsimp only
  split
  · split
    · exact ⟨_, s.counts.streams, _, rfl⟩
    · exact ⟨_, _, _, rfl⟩
  · exact ⟨s.dma, s.counts.streams, s.out.sinkCalls, rfl⟩

theorem foldl_sdDisable_update (l : List Stream) :
    ∀ s, ∃ dma streams calls, l.foldl (fun s n => sdDisable n s) s =
      { s with
        dma := dma, counts := { s.counts with streams := streams }, out := { s.out with sinkCalls := calls } } := by
  induction l with
  | nil => exact fun s => ⟨s.dma, s.counts.streams, s.out.sinkCalls, rfl⟩
  | cons n rest ih =>
    intro s
    obtain ⟨_, _, _, hfirst⟩ := sdDisable_update n s
    obtain ⟨dma, streams, calls, hrest⟩ := ih (sdDisable n s)
    refine ⟨dma, streams, calls, hrest.trans ?_⟩
    rw [hfirst]

/-- What SD.DISABLE makes of its stream's counters: an xrun where an armed engine had bytes left (R283, R284). -/
def StreamCounts.disabled (c : StreamCounts) (d : Dma) : StreamCounts :=
  { c with xrun := c.xrun + if d.running && decide (d.ring ≠ []) then 1 else 0 }

theorem streamCounts_setStreamCounts (s : State) (n m : Stream) (c : StreamCounts) :
    (s.setStreamCounts n c).streamCounts m = if m = n then c else s.streamCounts m := by
  unfold State.streamCounts State.setStreamCounts
  dsimp only
  rw [Vector.get_eq_getElem, Vector.get_eq_getElem, Vector.getElem_set]
  simp only [Fin.ext_iff, eq_comm]

theorem sdDisable_streamCounts (n m : Stream) (s : State) :
    (sdDisable n s).streamCounts m =
      if m = n then (s.streamCounts n).disabled (s.dmaOf n) else s.streamCounts m := by
  have hsame (h : ((s.dmaOf n).running && decide ((s.dmaOf n).ring ≠ [])) = false) :
      (if m = n then (s.streamCounts n).disabled (s.dmaOf n) else s.streamCounts m) = s.streamCounts m := by
    unfold StreamCounts.disabled
    rw [h, if_neg Bool.false_ne_true]
    split
    · next hm => rw [hm, Nat.add_zero]
    · rfl
  unfold sdDisable
  dsimp only
  split
  · next hrun =>
    split
    · next hring => exact (hsame (by rw [hring]; simp)).symm
    · next hring =>
      refine (streamCounts_setStreamCounts _ n m _).trans ?_
      unfold StreamCounts.disabled
      rw [hrun, Bool.true_and, if_pos (decide_eq_true hring)]
      rfl
  · next hrun => exact (hsame (by rw [Bool.eq_false_iff.mpr hrun, Bool.false_and])).symm

/-- Disabling the streams of a list counts for each of them once. -/
theorem foldl_sdDisable_streamCounts (m : Stream) (l : List Stream) (hl : l.Nodup) :
    ∀ s, (l.foldl (fun s n => sdDisable n s) s).streamCounts m =
      if m ∈ l then (s.streamCounts m).disabled (s.dmaOf m) else s.streamCounts m := by
  induction l with
  | nil => exact fun s => (if_neg List.not_mem_nil).symm
  | cons n rest ih =>
    obtain ⟨hn, hrest⟩ := List.nodup_cons.mp hl
    intro s
    rw [List.foldl_cons, ih hrest, sdDisable_streamCounts]
    by_cases hm : m = n
    · subst hm
      rw [if_neg hn, if_pos rfl, if_pos (List.mem_cons_self ..)]
    · rw [if_neg hm, (onlyStream_sdDisable n s).dma m hm]
      simp only [List.mem_cons, hm, false_or]

theorem sdDisable_sinkCalls (s : State) (n : Stream) :
    (sdDisable n s).out.sinkCalls = if (s.dmaOf n).running then .stop n :: s.out.sinkCalls else s.out.sinkCalls := by
  obtain ⟨c, heq⟩ := sdDisable_eq n s
  rw [heq]
  rfl

/-- SD.DISABLE of every stream as one update (R283, R305, R312). -/
theorem disableAll_eq (s : State) :
    disableAll s =
      { s with
        dma := (disableAll s).dma, counts := { s.counts with streams := (disableAll s).counts.streams },
        out := { s.out with sinkCalls := stopCalls s ++ s.out.sinkCalls } } := by
  have hcalls : (allStreams.foldl (fun s n => sdDisable n s) s).out.sinkCalls = stopCalls s ++ s.out.sinkCalls :=
    foldl_stopCalls (f := fun s n => sdDisable n s) sdDisable_sinkCalls
      (fun s n => (onlyStream_sdDisable n s).dma) allStreams allStreams_nodup s
  obtain ⟨dma, streams, calls, heq⟩ := foldl_sdDisable_update allStreams s
  unfold disableAll
  rw [heq] at hcalls ⊢
  rw [← hcalls]

/-- Engines that are not armed stay as they are (R283). -/
theorem disableAll_of_idle {s : State} (h : ∀ n, (s.dmaOf n).running = false) : disableAll s = s := by
  unfold disableAll
  generalize allStreams = l
  induction l with
  | nil => rfl
  | cons n rest ih => rw [List.foldl_cons, sdDisable_of_not_running (h n), ih]

/-- Settles O51: each engine is disabled and counted once, and then none is armed. -/
theorem Engines.poweroff : Obligations.Poweroff := by
  intro s
  have hdma := disableAll_dmaOf s
  refine ⟨disableAll s, rfl, disableAll_eq s, hdma, fun n => ?_, ?_⟩
  · exact (foldl_sdDisable_streamCounts n allStreams allStreams_nodup s).trans (if_pos (mem_allStreams n))
  · refine congrArg Host.Outcome.next (disableAll_of_idle fun n => ?_)
    rw [hdma]
    exact Dma.disabled_running _

end Sys2Proof.Machine
end

section
/-! A TICK that is due (44_stream_dma.md R271, R273): the step it executes, and when it is skipped. -/

namespace Sys2Proof.Machine

/-! ### TICK is enabled (R271) -/

theorem streamOf_ofNat (n : Stream) : streamOf (BitVec.ofNat 4 n.val) = some n := by
  revert n
  decide

theorem exec_tick (n : Stream) (s : State) : exec (.tick (BitVec.ofNat 4 n.val)) s = tick n s := by
  have hexec : exec (.tick (BitVec.ofNat 4 n.val)) s = execTick (BitVec.ofNat 4 n.val) s := rfl
  rw [hexec]
  unfold execTick
  rw [streamOf_ofNat]

theorem tickEnabled_iff (s : State) (n : Stream) :
    tickEnabled s n = true ↔ (s.dmaOf n).running = true ∧ (s.dmaOf n).tsNext ≤ s.now := by
  unfold tickEnabled
  rw [Bool.and_eq_true, decide_eq_true_iff]

theorem tick_of_not_enabled {n : Stream} {s : State} (h : ¬ tickEnabled s n = true) :
    tick n s = .refused .tickNotEnabled := if_neg h

section
variable {s : State} {n : Stream} {st : Step}

theorem TickDue.armed (h : TickDue s n st) : (s.dmaOf n).Armed s.cfg s.regs n := h.1.armed h.2.1

theorem TickDue.inside (h : TickDue s n st) : StepInside (s.dmaOf n).bdl st := by
  obtain ⟨fmt, _, hsched⟩ := h.armed.schedule
  obtain ⟨_, _, _, hst⟩ := h
  exact buildSchedule_inside (hsched ▸ List.mem_of_getElem? hst)

/-- The last entry of step `st` has IOC (R278). -/
def lastIoc (s : State) (n : Stream) (st : Step) : Bool :=
  ((s.dmaOf n).bdl[st.first + st.count - 1]?.map (·.ioc)).getD false

/-- A tick that is due executes the current step (R272). -/
theorem TickDue.tick_eq (h : TickDue s n st) : tick n s = tickRun n st (lastIoc s n st) s := by
  have hcount := h.inside.count
  have hinside := h.inside.inside
  have hnonempty := h.armed.nonempty
  obtain ⟨_, hrun, hdue, hst⟩ := h
  have hlast : (s.dmaOf n).bdl[st.first + st.count - 1]? = some (s.dmaOf n).bdl[st.first + st.count - 1] :=
    List.getElem?_eq_getElem (by omega)
  unfold tick lastIoc
  rw [if_pos ((tickEnabled_iff s n).mpr ⟨hrun, hdue⟩), hst]
  dsimp only
  rw [hlast]
  exact if_neg hnonempty

/-- In order, the room in the ring is what R273 compares with. -/
theorem skipTick_iff (h : StreamOk s n) : skipTick s n st = true ↔ MustSkip s n st := by
  have hbound := h.bounded
  have hroom : s.cfg.ringBytes.get n - (s.dmaOf n).ring.length < st.bytes ↔
      s.cfg.ringBytes.get n < (s.dmaOf n).ring.length + st.bytes := by omega
  unfold skipTick MustSkip
  simp only [Bool.or_eq_true, Bool.and_eq_true, Bool.not_eq_true', decide_eq_true_iff, hroom, and_assoc, or_assoc]

end

/-- A skipped tick changes its counter and its timer before its IRQ.EVAL (R273). -/
theorem tickSkipped_eq (n : Stream) (st : Step) (s : State) :
    tickSkipped n st s = irqEval ((s.setStreamCounts n
      { s.streamCounts n with skippedIrqPending := (s.streamCounts n).skippedIrqPending + 1 }).setDma n
      { s.dmaOf n with tsNext := s.now + st.ticks }) := rfl

/-- Settles O46: TICK is refused unless enabled; a due one that must be skipped ends before its transfer. -/
theorem Tick.tickSkipped : Obligations.TickSkipped := by
  intro s n
  refine ⟨fun hnot => ?_, fun st hdue hskip => ?_⟩
  · rw [exec_tick]
    exact tick_of_not_enabled fun h => hnot ((tickEnabled_iff s n).mp h)
  · rw [exec_tick, hdue.tick_eq, ← tickSkipped_eq]
    exact if_pos ((skipTick_iff hdue.1).mpr hskip)

end Sys2Proof.Machine
end

section
/-! The transfer of a step (44_stream_dma.md R274, 20_memory.md R75, R76): the loop as a sequence of moves, the bytes
that the moves reach, and what a transfer that completes and one that fails leave. -/

namespace Sys2Proof.Machine

/-! ### The bytes before a transfer (R274, R304) -/

theorem addrsFrom_eq_range' (d : Bdle) (o : Nat) : d.addrsFrom o = List.range' (d.addr.toNat + o) (d.len.toNat - o) :=
  (List.range'_eq_map_range).symm

theorem addrsFrom_of_le {d : Bdle} {o : Nat} (h : d.len.toNat ≤ o) : d.addrsFrom o = [] := by
  rw [addrsFrom_eq_range', Nat.sub_eq_zero_of_le h]
  rfl

theorem addrsFrom_chunk {d : Bdle} {o c : Nat} (h : c ≤ d.len.toNat - o) :
    d.addrsFrom o = List.range' (d.addr.toNat + o) c ++ d.addrsFrom (o + c) := by
  rw [addrsFrom_eq_range', addrsFrom_eq_range', ← Nat.add_assoc, Nat.sub_add_eq, List.range'_append_1,
    Nat.add_sub_cancel' h]

theorem take_range'_append (a c k : Nat) (l : List Nat) :
    (List.range' a c ++ l).take (c + k) = List.range' a c ++ l.take k := by
  have h := List.take_length_add_append (l₁ := List.range' a c) (l₂ := l) k
  rwa [List.length_range'] at h

section
variable {bdl : List Bdle} {d : Bdle} {e o : Nat} (hd : bdl[e]? = some d)
include hd

theorem passAddrs_eq : passAddrs bdl e o = d.addrsFrom o ++ (followers bdl e).flatMap (·.addrsFrom 0) := by
  unfold passAddrs followers
  rw [hd]
  rfl

theorem length_passAddrs : (passAddrs bdl e o).length = d.len.toNat - o + totalLen bdl := by
  rw [passAddrs_eq hd, List.length_append, addrsFrom_eq_range', List.length_range', List.length_flatMap,
    ← sum_followers bdl e]
  simp [addrsFrom_eq_range']

/-- At the end of an entry the bytes are those of the next, as far as one round goes. -/
theorem passAddrs_next (ho : d.len.toNat ≤ o) {k : Nat} (hk : k ≤ totalLen bdl) :
    (passAddrs bdl e o).take k = (passAddrs bdl ((e + 1) % bdl.length) 0).take k := by
  obtain ⟨d', tl, hd', hhere, hnext⟩ := followers_step bdl e (List.getElem?_eq_some_iff.mp hd).1
  have hlong : passAddrs bdl ((e + 1) % bdl.length) 0 = passAddrs bdl e o ++ d'.addrsFrom 0 := by
    rw [passAddrs_eq hd', passAddrs_eq hd, addrsFrom_of_le ho, hhere, hnext]
    simp
  rw [hlong, List.take_append_of_le_length (by rw [length_passAddrs hd]; omega)]

/-- Inside an entry the bytes of an access come first. -/
theorem passAddrs_chunk {c : Nat} (hc : c ≤ d.len.toNat - o) (k : Nat) :
    (passAddrs bdl e o).take (c + k) = List.range' (d.addr.toNat + o) c ++ (passAddrs bdl e (o + c)).take k := by
  rw [passAddrs_eq hd, passAddrs_eq hd, addrsFrom_chunk hc, List.append_assoc, take_range'_append]

end

/-! ### Accesses byte by byte (R75, R76) -/

/-- In memory in canonical form an access fails exactly where it covers a byte that is not backed: none is at or above
2^64. -/
theorem read_isSome_iff_backed {m : Memory} (hm : m.wf = true) (a c : Nat) :
    (m.read a c).isSome = true ↔ ∀ x < c, (m.byte (a + x)).isSome = true := by
  rw [Memory.read_isSome_iff]
  constructor
  · rintro (rfl | ⟨_, h⟩)
    · exact fun x hx => absurd hx (Nat.not_lt_zero x)
    · exact h
  · intro h
    rcases Nat.eq_zero_or_pos c with hc | hc
    · exact .inl hc
    · have hlast := (Memory.byte_isSome_iff m _).mp (h (c - 1) (by omega))
      have := ((Memory.wf_iff m).mp hm).2 _ hlast
      exact .inr ⟨by omega, h⟩

/-- The bytes of a run, one by one. -/
theorem readRun_eq_filterMap (m : Memory) : ∀ (c a : Nat) (x : List Byte), m.readRun a c = some x →
    (List.range' a c).filterMap m.byte = x := by
  intro c
  induction c with
  | zero => exact fun _ _ h => Option.some.inj h
  | succ c ih =>
    intro a x h
    rw [Memory.readRun] at h
    split at h
    · next b rest hb hrest =>
      obtain rfl := Option.some.inj h
      rw [List.range'_succ, List.filterMap_cons_some hb, ih _ _ hrest]
    · cases h

theorem read_eq_filterMap {m : Memory} {a c : Nat} {x : List Byte} (h : m.read a c = some x) :
    (List.range' a c).filterMap m.byte = x := by
  rw [Memory.read_eq] at h
  split at h
  · next hc =>
    subst hc
    exact Option.some.inj h
  · split at h
    · cases h
    · exact readRun_eq_filterMap m c a x h

/-- An access that stores `c` bytes stores the first of them one by one. -/
theorem storeAll_chunk (as : List Nat) : ∀ (c : Nat) (m : Memory) (a : Nat) (src : List Byte), c ≤ src.length →
    storeAll m (List.range' a c ++ as) src = storeAll (m.writeRun a (src.take c)) as (src.drop c) := by
  intro c
  induction c with
  | zero => exact fun _ _ _ _ => rfl
  | succ c ih =>
    intro m a src hc
    cases src with
    | nil => exact absurd hc (Nat.not_succ_le_zero c)
    | cons b src => exact ih (m.poke a b) (a + 1) src (Nat.le_of_succ_le_succ hc)

theorem storeAll_nil (m : Memory) (src : List Byte) : storeAll m [] src = m := by cases src <;> rfl

/-! ### The moves (R274) -/

/-- The run of a transfer from memory `mem` and position `(e, o)` with `rem` bytes left, `src` to store and `buf` read:
no byte is left, or it goes to the next entry, or one access of the current entry stores or reads, or fails. -/
inductive Moves (bdl : List Bdle) (input : Bool) :
    (mem : Memory) → (e o rem : Nat) → (src buf : List Byte) → Xfer → Prop
  | zero (mem : Memory) (e o : Nat) (src buf : List Byte) : Moves bdl input mem e o 0 src buf (.done e o mem buf)
  | next {mem : Memory} {e o rem : Nat} {src buf : List Byte} {d : Bdle} {x : Xfer} (hd : bdl[e]? = some d)
      (ho : d.len.toNat ≤ o) (h : Moves bdl input mem ((e + 1) % bdl.length) 0 rem src buf x) :
      Moves bdl input mem e o rem src buf x
  | store {mem mem' : Memory} {e o rem : Nat} {src buf : List Byte} {d : Bdle} {x : Xfer} (hinput : input = true)
      (hd : bdl[e]? = some d) (ho : o < d.len.toNat)
      (hwrite : mem.write (d.addr.toNat + o) (src.take (min rem (d.len.toNat - o))) = some mem')
      (h : Moves bdl input mem' e (o + min rem (d.len.toNat - o)) (rem - min rem (d.len.toNat - o))
        (src.drop (min rem (d.len.toNat - o))) buf x) :
      Moves bdl input mem e o rem src buf x
  | fetch {mem : Memory} {e o rem : Nat} {src buf bytes : List Byte} {d : Bdle} {x : Xfer} (hinput : input = false)
      (hd : bdl[e]? = some d) (ho : o < d.len.toNat)
      (hread : mem.read (d.addr.toNat + o) (min rem (d.len.toNat - o)) = some bytes)
      (h : Moves bdl input mem e (o + min rem (d.len.toNat - o)) (rem - min rem (d.len.toNat - o)) src
        (buf ++ bytes) x) :
      Moves bdl input mem e o rem src buf x
  | failed {mem : Memory} {e o rem : Nat} {src buf : List Byte} {d : Bdle} (hd : bdl[e]? = some d)
      (ho : o < d.len.toNat) (hread : mem.read (d.addr.toNat + o) (min rem (d.len.toNat - o)) = none) :
      Moves bdl input mem e o rem src buf (.failed mem)

section
variable {bdl : List Bdle} {cnt : Nat} {d : Bdle} {e o rem : Nat} (hd : bdl[e]? = some d) (ho : o < d.len.toNat)
  (hrem : rem ≠ 0)
include hd ho hrem

/-- One access of an input stream's loop. -/
theorem xferLoop_store (fuel : Nat) (mem : Memory) (src buf : List Byte) :
    xferLoop bdl cnt true (fuel + 1) mem e o rem src buf =
      (mem.write (d.addr.toNat + o) (src.take (min rem (d.len.toNat - o)))).elim (.failed mem) fun mem' =>
        xferLoop bdl cnt true fuel mem' e (o + min rem (d.len.toNat - o)) (rem - min rem (d.len.toNat - o))
          (src.drop (min rem (d.len.toNat - o))) buf := by
  conv => lhs; unfold xferLoop
  rw [if_neg hrem, hd]
  refine (if_neg (Nat.not_le_of_lt ho)).trans ?_
  dsimp only
  rw [if_pos rfl]
  cases mem.write (d.addr.toNat + o) (src.take (min rem (d.len.toNat - o))) <;> rfl

/-- One access of an output stream's loop. -/
theorem xferLoop_fetch (fuel : Nat) (mem : Memory) (src buf : List Byte) :
    xferLoop bdl cnt false (fuel + 1) mem e o rem src buf =
      (mem.read (d.addr.toNat + o) (min rem (d.len.toNat - o))).elim (.failed mem) fun bytes =>
        xferLoop bdl cnt false fuel mem e (o + min rem (d.len.toNat - o)) (rem - min rem (d.len.toNat - o))
          src (buf ++ bytes) := by
  conv => lhs; unfold xferLoop
  rw [if_neg hrem, hd]
  refine (if_neg (Nat.not_le_of_lt ho)).trans ?_
  dsimp only
  rw [if_neg Bool.false_ne_true]
  cases mem.read (d.addr.toNat + o) (min rem (d.len.toNat - o)) <;> rfl

end

/-- The loop of R274 makes these moves, unless its fuel or its list is used up. -/
theorem xferLoop_moves {bdl : List Bdle} {input : Bool} (fuel : Nat) :
    ∀ (mem : Memory) (e o rem : Nat) (src buf : List Byte), (input = true → rem ≤ src.length) →
      xferLoop bdl bdl.length input fuel mem e o rem src buf ≠ .exhausted →
      Moves bdl input mem e o rem src buf (xferLoop bdl bdl.length input fuel mem e o rem src buf) := by
  induction fuel with
  | zero =>
    intro mem e o rem src buf _ hx
    unfold xferLoop at hx ⊢
    split at hx
    · next hrem =>
      subst hrem
      exact .zero mem e o src buf
    · exact absurd rfl hx
  | succ fuel ih =>
    intro mem e o rem src buf hsrc hx
    by_cases hrem : rem = 0
    · subst hrem
      rw [xferLoop_zero]
      exact .zero mem e o src buf
    · cases hd : bdl[e]? with
      | none =>
        unfold xferLoop at hx
        rw [if_neg hrem, hd] at hx
        exact absurd rfl hx
      | some d =>
        rcases Nat.lt_or_ge o d.len.toNat with ho | ho
        · cases input with
          | true =>
            have hlen := hsrc rfl
            have hfails := mem.write_isSome (d.addr.toNat + o) (src.take (min rem (d.len.toNat - o)))
            rw [List.length_take_of_le (by omega)] at hfails
            rw [xferLoop_store hd ho hrem] at hx ⊢
            cases hwrite : mem.write (d.addr.toNat + o) (src.take (min rem (d.len.toNat - o))) with
            | none =>
              rw [hwrite] at hfails
              exact .failed hd ho (Option.isNone_iff_eq_none.mp (Option.isSome_eq_false_iff.mp hfails.symm))
            | some mem' =>
              rw [hwrite] at hx
              exact .store rfl hd ho hwrite (ih _ _ _ _ _ _ (fun _ => by rw [List.length_drop]; omega) hx)
          | false =>
            rw [xferLoop_fetch hd ho hrem] at hx ⊢
            cases hread : mem.read (d.addr.toNat + o) (min rem (d.len.toNat - o)) with
            | none => exact .failed hd ho hread
            | some bytes =>
              rw [hread] at hx
              exact .fetch rfl hd ho hread (ih _ _ _ _ _ _ nofun hx)
        · rw [xferLoop_next hd ho hrem] at hx ⊢
          exact .next hd ho (ih _ _ _ _ _ _ hsrc hx)

/-! ### What the moves leave (R274, R76) -/

/-- A transfer of `rem` bytes from `(e, o)` has completed at `(e', o')` with memory `m` and `out` read: every byte was
backed, an input stream stored its bytes, an output stream read them, and the bytes that follow are those from
`(e', o')` on, as far as one round goes. -/
structure Completed (bdl : List Bdle) (input : Bool) (mem : Memory) (e o rem : Nat) (src buf : List Byte)
    (e' o' : Nat) (m : Memory) (out : List Byte) : Prop where
  backed : ∀ a ∈ (passAddrs bdl e o).take rem, (mem.byte a).isSome = true
  stored : m = if input then storeAll mem ((passAddrs bdl e o).take rem) src else mem
  read : out = if input then buf else buf ++ ((passAddrs bdl e o).take rem).filterMap mem.byte
  follow : ∀ k, rem + k ≤ totalLen bdl →
    (passAddrs bdl e o).take (rem + k) = (passAddrs bdl e o).take rem ++ (passAddrs bdl e' o').take k

/-- A transfer of `rem` bytes from `(e, o)` has failed with memory `m`: a byte was not backed, and an input stream has
stored the bytes of the accesses before the first that failed. -/
structure Aborted (bdl : List Bdle) (input : Bool) (mem : Memory) (e o rem : Nat) (src : List Byte) (m : Memory) :
    Prop where
  unbacked : ∃ a ∈ (passAddrs bdl e o).take rem, mem.byte a = none
  stored : m = if input then
      storeAll mem (((passAddrs bdl e o).take rem).take
        (bytesBeforeFailure mem (cutSpans rem (passSpans bdl e o)))) src
    else mem

theorem backed_of_read {m : Memory} {a c : Nat} {x : List Byte} (h : m.read a c = some x) :
    ∀ i < c, (m.byte (a + i)).isSome = true := by
  obtain ⟨hlen, hbyte⟩ := Memory.read_eq_some h
  intro i hi
  rw [hbyte i hi, List.getElem?_eq_getElem (by omega)]
  rfl

section
variable {bdl : List Bdle} {input : Bool} {mem m : Memory} {e o rem e' o' : Nat} {src buf out : List Byte} {d : Bdle}

theorem Completed.zero : Completed bdl input mem e o 0 src buf e o mem buf := by
  refine ⟨fun a ha => absurd ha List.not_mem_nil, ?_, ?_, fun k _ => by rw [Nat.zero_add]; rfl⟩
  · rw [List.take_zero, storeAll_nil, ite_self]
  · rw [List.take_zero, List.filterMap_nil, List.append_nil, ite_self]

theorem Completed.next (hd : bdl[e]? = some d) (ho : d.len.toNat ≤ o) (hrem : rem ≤ totalLen bdl)
    (h : Completed bdl input mem ((e + 1) % bdl.length) 0 rem src buf e' o' m out) :
    Completed bdl input mem e o rem src buf e' o' m out := by
  obtain ⟨hbacked, hstored, hread, hfollow⟩ := h
  rw [← passAddrs_next hd ho hrem] at hbacked hstored hread
  refine ⟨hbacked, hstored, hread, fun k hk => ?_⟩
  rw [passAddrs_next hd ho hk, hfollow k hk, passAddrs_next hd ho hrem]

theorem Aborted.next (hd : bdl[e]? = some d) (ho : d.len.toNat ≤ o) (hrem : rem ≤ totalLen bdl)
    (h : Aborted bdl input mem ((e + 1) % bdl.length) 0 rem src m) : Aborted bdl input mem e o rem src m := by
  obtain ⟨hunbacked, hstored⟩ := h
  rw [← passAddrs_next hd ho hrem] at hunbacked hstored
  rw [← landed_next_entry mem bdl e o rem hd ho hrem] at hstored
  exact ⟨hunbacked, hstored⟩

section
variable {c : Nat} (hd : bdl[e]? = some d) (hc : min rem (d.len.toNat - o) = c)
include hd hc

/-- The bytes to move are those of the access and those left after it. -/
theorem passAddrs_access : (passAddrs bdl e o).take rem =
    List.range' (d.addr.toNat + o) c ++ (passAddrs bdl e (o + c)).take (rem - c) := by
  rw [← passAddrs_chunk hd (by omega), Nat.add_sub_cancel' (by omega)]

theorem follow_access (h : ∀ k, rem - c + k ≤ totalLen bdl → (passAddrs bdl e (o + c)).take (rem - c + k) =
      (passAddrs bdl e (o + c)).take (rem - c) ++ (passAddrs bdl e' o').take k) (k : Nat)
    (hk : rem + k ≤ totalLen bdl) :
    (passAddrs bdl e o).take (rem + k) = (passAddrs bdl e o).take rem ++ (passAddrs bdl e' o').take k := by
  rw [passAddrs_access hd hc, List.append_assoc, ← h k (by omega), ← passAddrs_chunk hd (by omega)]
  congr 1
  omega

theorem backed_access {x : List Byte} (hread : mem.read (d.addr.toNat + o) c = some x)
    (h : ∀ a ∈ (passAddrs bdl e (o + c)).take (rem - c), (mem.byte a).isSome = true) :
    ∀ a ∈ (passAddrs bdl e o).take rem, (mem.byte a).isSome = true := by
  intro a ha
  rw [passAddrs_access hd hc] at ha
  rcases List.mem_append.mp ha with ha | ha
  · obtain ⟨i, hi, rfl⟩ := List.mem_range'.mp ha
    rw [Nat.one_mul]
    exact backed_of_read hread i hi
  · exact h a ha

theorem Completed.fetch {bytes : List Byte} (hread : mem.read (d.addr.toNat + o) c = some bytes)
    (h : Completed bdl false mem e (o + c) (rem - c) src (buf ++ bytes) e' o' m out) :
    Completed bdl false mem e o rem src buf e' o' m out := by
  refine ⟨backed_access hd hc hread h.backed, h.stored, h.read.trans ?_, follow_access hd hc h.follow⟩
  rw [passAddrs_access hd hc, List.filterMap_append, read_eq_filterMap hread, ← List.append_assoc]
  rfl

/-- Storing backs no address (R76). -/
theorem Completed.store {mem' : Memory} (hlen : rem ≤ src.length)
    (hwrite : mem.write (d.addr.toNat + o) (src.take c) = some mem')
    (h : Completed bdl true mem' e (o + c) (rem - c) (src.drop c) buf e' o' m out) :
    Completed bdl true mem e o rem src buf e' o' m out := by
  obtain ⟨hmem, x, hread⟩ := Memory.write_eq_some hwrite
  rw [List.length_take_of_le (by omega)] at hread
  have haddrs := Memory.addrs_write hwrite
  refine ⟨backed_access hd hc hread ?_, h.stored.trans ?_, h.read, follow_access hd hc h.follow⟩
  · intro a ha
    rw [← Memory.isSome_congr haddrs]
    exact h.backed a ha
  · rw [passAddrs_access hd hc, hmem]
    exact (storeAll_chunk _ _ _ _ _ (by omega)).symm

theorem unbacked_access (h : ∃ a ∈ (passAddrs bdl e (o + c)).take (rem - c), mem.byte a = none) :
    ∃ a ∈ (passAddrs bdl e o).take rem, mem.byte a = none := by
  obtain ⟨a, ha, hnone⟩ := h
  rw [passAddrs_access hd hc]
  exact ⟨a, List.mem_append_right _ ha, hnone⟩

theorem Aborted.fetch (h : Aborted bdl false mem e (o + c) (rem - c) src m) : Aborted bdl false mem e o rem src m :=
  ⟨unbacked_access hd hc h.unbacked, h.stored⟩

theorem Aborted.store {mem' : Memory} (ho : o < d.len.toNat) (hlen : rem ≤ src.length)
    (hwrite : mem.write (d.addr.toNat + o) (src.take c) = some mem')
    (h : Aborted bdl true mem' e (o + c) (rem - c) (src.drop c) m) : Aborted bdl true mem e o rem src m := by
  obtain ⟨hmem, x, hread⟩ := Memory.write_eq_some hwrite
  rw [List.length_take_of_le (by omega)] at hread
  have haddrs := Memory.addrs_write hwrite
  obtain ⟨⟨a, ha, hnone⟩, hstored⟩ := h
  refine ⟨unbacked_access hd hc ⟨a, ha, ?_⟩, hstored.trans ?_⟩
  · rw [Memory.byte_eq_none_iff, ← haddrs, ← Memory.byte_eq_none_iff]
    exact hnone
  · rw [landed_chunk mem bdl e o rem c hd hc ho, if_pos (backed_of_read hread), passAddrs_access hd hc,
      bytesBeforeFailure_congr haddrs, take_range'_append, hmem]
    exact (storeAll_chunk _ _ _ _ _ (by omega)).symm

/-- The access fails: it covers a byte that is not backed, and stores nothing. -/
theorem Aborted.failed (hm : mem.wf = true) (ho : o < d.len.toNat) (hread : mem.read (d.addr.toNat + o) c = none) :
    Aborted bdl input mem e o rem src mem := by
  have hnot : ¬ ∀ x < c, (mem.byte (d.addr.toNat + o + x)).isSome = true := by
    rw [← read_isSome_iff_backed hm, hread]
    exact Bool.false_ne_true
  refine ⟨?_, ?_⟩
  · simp only [not_forall, Option.not_isSome_iff_eq_none] at hnot
    obtain ⟨x, hx, hnone⟩ := hnot
    rw [passAddrs_access hd hc]
    exact ⟨_, List.mem_append_left _ (List.mem_range'_1.mpr ⟨by omega, by omega⟩), hnone⟩
  · rw [landed_chunk mem bdl e o rem c hd hc ho, if_neg hnot, List.take_zero, storeAll_nil, ite_self]

end

/-- The moves of a transfer that completes. -/
theorem Moves.completed {x : Xfer} (h : Moves bdl input mem e o rem src buf x) :
    rem ≤ totalLen bdl → (input = true → rem ≤ src.length) → x = .done e' o' m out →
      Completed bdl input mem e o rem src buf e' o' m out := by
  induction h with
  | zero =>
    intro _ _ hx
    cases hx
    exact .zero
  | next hd ho _ ih => exact fun hrem hsrc hx => (ih hrem hsrc hx).next hd ho hrem
  | store hinput hd ho hwrite _ ih =>
    subst hinput
    intro hrem hsrc hx
    have hlen := hsrc rfl
    exact (ih (by omega) (fun _ => by rw [List.length_drop]; omega) hx).store hd rfl hlen hwrite
  | fetch hinput hd ho hread _ ih =>
    subst hinput
    exact fun hrem _ hx => (ih (by omega) nofun hx).fetch hd rfl hread
  | failed => exact fun _ _ hx => nomatch hx

/-- The moves of a transfer that fails. -/
theorem Moves.aborted {x : Xfer} (h : Moves bdl input mem e o rem src buf x) :
    mem.wf = true → rem ≤ totalLen bdl → (input = true → rem ≤ src.length) → x = .failed m →
      Aborted bdl input mem e o rem src m := by
  induction h with
  | zero => exact fun _ _ _ hx => nomatch hx
  | next hd ho _ ih => exact fun hm hrem hsrc hx => (ih hm hrem hsrc hx).next hd ho hrem
  | store hinput hd ho hwrite _ ih =>
    subst hinput
    intro hm hrem hsrc hx
    have hlen := hsrc rfl
    exact (ih ((Memory.wf_write hwrite).trans hm) (by omega) (fun _ => by rw [List.length_drop]; omega) hx).store hd rfl
      ho hlen hwrite
  | fetch hinput hd ho hread _ ih =>
    subst hinput
    exact fun hm hrem _ hx => (ih hm (by omega) nofun hx).fetch hd rfl
  | failed hd ho hread =>
    intro hm _ _ hx
    cases hx
    exact .failed hd rfl hm ho hread

end

end Sys2Proof.Machine
end

section
/-! A TICK that is due and not skipped (44_stream_dma.md R272 to R281): its end as one update of the state, and with it
the tick that moves its bytes and the one that a guest-memory failure aborts. -/

namespace Sys2Proof.Machine

/-! ### Which end the tick takes (R272) -/

/-- The list has the step's bytes (R287). -/
theorem TickDue.transfer_not_exhausted {s : State} {n : Stream} {st : Step} (hdue : TickDue s n st) :
    transfer s n st.bytes ≠ .exhausted := by
  have hentries := hdue.armed.entries
  unfold transfer
  rw [← hentries]
  exact xferLoop_not_exhausted (hentries ▸ hdue.armed.entry) hdue.inside.bytes _ _ _ _ _

section
variable {s : State} {n : Stream} {st : Step} (hready : ¬ MustSkip s n st)
include hready

/-- An input stream that is not skipped has the step's bytes (R273, R275). -/
theorem length_stepSource (hinput : isInput n = true) : st.bytes ≤ (stepSource s n st).length := by
  unfold stepSource
  split
  · next hok =>
    have hring : ¬ (s.dmaOf n).ring.length < st.bytes := fun h => hready (.inr (.inl ⟨hok, hinput, h⟩))
    rw [List.length_take]
    omega
  · rw [List.length_replicate]

variable (hdue : TickDue s n st)
include hdue

/-- The transfer makes its moves (R274). -/
theorem transfer_moves : Moves (s.dmaOf n).bdl (isInput n) s.mem (s.dmaOf n).curEntry (s.dmaOf n).curOff st.bytes
    (stepSource s n st) [] (transfer s n st.bytes) := by
  have hends := hdue.transfer_not_exhausted
  unfold transfer at hends ⊢
  rw [← hdue.armed.entries] at hends ⊢
  exact xferLoop_moves _ _ _ _ _ _ _ (length_stepSource hready) hends

theorem transfer_completed {e o : Nat} {m : Memory} {buf : List Byte} (h : transfer s n st.bytes = .done e o m buf) :
    Completed (s.dmaOf n).bdl (isInput n) s.mem (s.dmaOf n).curEntry (s.dmaOf n).curOff st.bytes (stepSource s n st) []
      e o m buf :=
  (transfer_moves hready hdue).completed hdue.inside.bytes (length_stepSource hready) h

theorem transfer_aborted (hmem : MemoryOk s) {m : Memory} (h : transfer s n st.bytes = .failed m) :
    Aborted (s.dmaOf n).bdl (isInput n) s.mem (s.dmaOf n).curEntry (s.dmaOf n).curOff st.bytes (stepSource s n st) m :=
  (transfer_moves hready hdue).aborted hmem hdue.inside.bytes (length_stepSource hready) h

theorem exec_tick_done {e o : Nat} {m : Memory} {buf : List Byte} (h : transfer s n st.bytes = .done e o m buf) :
    exec (.tick (BitVec.ofNat 4 n.val)) s = .next (tickDone n st (lastIoc s n st) e o m buf s) := by
  rw [exec_tick, hdue.tick_eq]
  unfold tickRun
  rw [if_neg (mt (skipTick_iff hdue.1).mp hready), h]

theorem exec_tick_failed {m : Memory} (h : transfer s n st.bytes = .failed m) :
    exec (.tick (BitVec.ofNat 4 n.val)) s = .next (tickAborted n st m s) := by
  rw [exec_tick, hdue.tick_eq]
  unfold tickRun
  rw [if_neg (mt (skipTick_iff hdue.1).mp hready), h]

end

/-! ### The end of a tick as one update (R272, R277 to R280) -/

theorem dmaOf_setDma_same (u : State) (n : Stream) (d : Dma) : (u.setDma n d).dmaOf n = d := by
  rw [State.dmaOf_setDma, if_pos rfl]

/-- The commit of a transfer changes guest memory, the engine and, where an output step was discarded, a counter (R274,
R275). -/
theorem commitTransfer_eq (n : Stream) (b e o : Nat) (mem : Memory) (buf : List Byte) (s : State) :
    commitTransfer n b e o mem buf s =
      { s with
        mem := mem,
        counts := if isInput n || (s.dmaOf n).sinkOk then s.counts else (s.countFlowError n).counts }.setDma n
        (s.transferred n b e o buf) := by
  unfold commitTransfer State.transferred
  dsimp only
  cases isInput n with
  | true => rfl
  | false => cases (s.dmaOf n).sinkOk <;> rfl

/-- The engine after one execution of step `st` at time `now`: `Dma.advanced`, with the queue of interrupts one longer
if `queued`, and the timer re-armed for the step that is current then (R278 to R280). -/
def Dma.stepped (d : Dma) (st : Step) (cnt : Nat) (queued : Bool) (now : Nat) : Dma :=
  let d' := d.advanced st cnt
  { d' with
    pendingIrq := if queued then d.pendingIrq + 1 else d.pendingIrq, tsLast := now,
    tsNext := now + ticksAt d'.sched d'.schedIdx }

theorem Dma.stepped_eq (d : Dma) (st : Step) (cnt : Nat) (queued : Bool) (now : Nat) :
    let last := decide (d.schedLoop + 1 = st.loops)
    let idx := if last then (d.schedIdx + 1) % d.sched.length else d.schedIdx
    d.stepped st cnt queued now =
      { d with
        curEntry := if last then (st.first + st.count) % cnt else d.curEntry, curOff := if last then 0 else d.curOff,
        schedIdx := idx, schedLoop := if last then 0 else d.schedLoop + 1,
        pendingIrq := if queued then d.pendingIrq + 1 else d.pendingIrq, tsLast := now,
        tsNext := now + ticksAt d.sched idx } := by
  intro last idx
  unfold Dma.stepped Dma.advanced
  by_cases hlast : d.schedLoop + 1 = st.loops
  · have htrue : last = true := decide_eq_true hlast
    simp only [idx, htrue, if_pos hlast, if_true]
  · have hfalse : last = false := decide_eq_false hlast
    simp only [idx, hfalse, if_neg hlast, Bool.false_eq_true, if_false]

/-- The end of a tick on a state and its engine's record: with the last execution of a step, the status follows the
boundary (R278 to R280). -/
theorem endStep_setDma (n : Stream) (st : Step) (ioc : Bool) (u : State) (d : Dma) :
    rearmTimer n (advanceSchedule n st ioc (u.setDma n d)) =
      (if decide (d.schedLoop + 1 = st.loops) && ioc then u.orReg (.str .sts n) bcisBit else u).setDma n
        (d.stepped st (u.regs.entryCount n) ((decide (d.schedLoop + 1 = st.loops) && ioc) && u.regs.ioce n) u.now) := by
  have hrearm (u : State) (d : Dma) : rearmTimer n (u.setDma n d) =
      u.setDma n { d with tsLast := u.now, tsNext := u.now + ticksAt d.sched d.schedIdx } := by
    unfold rearmTimer
    rw [dmaOf_setDma_same]
    exact setDma_twice u n d _
  unfold advanceSchedule finishStep Dma.stepped Dma.advanced
  rw [dmaOf_setDma_same]
  dsimp only
  by_cases hlast : d.schedLoop + 1 = st.loops
  · rw [if_pos hlast, if_pos hlast, decide_eq_true hlast, setDma_twice]
    cases ioc with
    | true => exact hrearm (u.orReg (.str .sts n) bcisBit) _
    | false => exact hrearm u _
  · rw [if_neg hlast, if_neg hlast, decide_eq_false hlast, setDma_twice]
    exact hrearm u _

/-- A tick that moved its bytes, before its IRQ.EVAL (R272, R277 to R280). -/
theorem tickDone_eq (n : Stream) (st : Step) (e o : Nat) (mem : Memory) (buf : List Byte) (s : State) :
    let u := { s with
      regs := s.regs.put (.str .lpib n) (nextLpib s n st), mem := mem,
      counts := if isInput n || (s.dmaOf n).sinkOk then s.counts else (s.countFlowError n).counts }
    tickDone n st (lastIoc s n st) e o mem buf s = irqEval
      ((if crossesBoundary s n st then u.orReg (.str .sts n) bcisBit else u).setDma n
        ((s.transferred n st.bytes e o buf).stepped st (s.regs.entryCount n)
          (crossesBoundary s n st && s.regs.ioce n) s.now)) := by
  intro u
  have hlpib {k : SReg} (hk : k ≠ .lpib) : u.regs.rd (.str k n) = s.regs.rd (.str k n) :=
    RegFile.rd_put_of_ne _ (by simpa using hk) _
  have hcount : u.regs.entryCount n = s.regs.entryCount n := by
    unfold RegFile.entryCount
    rw [hlpib (by decide)]
  have hioce : u.regs.ioce n = s.regs.ioce n := by
    unfold RegFile.ioce
    rw [hlpib (by decide)]
  have hmoved : advanceLpib n st.bytes (commitTransfer n st.bytes e o mem buf s) =
      u.setDma n (s.transferred n st.bytes e o buf) := by
    rw [commitTransfer_eq]
    rfl
  unfold tickDone
  rw [hmoved, endStep_setDma, hcount, hioce]
  rfl

/-- A tick that was aborted, before its IRQ.EVAL (R276). -/
theorem tickAborted_eq (n : Stream) (st : Step) (mem : Memory) (s : State) :
    tickAborted n st mem s = irqEval
      (({ s with mem := mem, counts := { s.counts with errors := s.counts.errors.add .fatal } }.setReg (.str .sts n)
        (s.reg (.str .sts n) ||| 0x10)).setDma n { s.dmaOf n with tsNext := s.now + st.ticks }) := rfl

/-! ### The two ends (R272, R274 to R281) -/

/-- The ring after a step of which an output stream has read the bytes `xs` (R274, R275). -/
theorem committedRing_read (d : Dma) (n : Stream) (b : Nat) (xs : List Byte) :
    committedRing d n b (if isInput n then [] else [] ++ xs) =
      if d.sinkOk then (if isInput n then d.ring.drop b else d.ring ++ xs) else d.ring := by
  unfold committedRing
  cases isInput n
  · rfl
  · rfl

/-- Settles O48: the transfer cannot complete, and it fails with the bytes stored that its accesses before the failing
one landed. -/
theorem tickAborts : Obligations.TickAborts := by
  intro s n st hmem hdue hready hunbacked
  cases hx : transfer s n st.bytes with
  | done e o mem buf =>
    obtain ⟨a, ha, hnone⟩ := hunbacked
    have hsome := (transfer_completed hready hdue hx).backed a ha
    rw [hnone] at hsome
    cases hsome
  | failed mem =>
    rw [exec_tick_failed hready hdue hx, tickAborted_eq, (transfer_aborted hready hdue hmem hx).stored]
    unfold bytesLanded
    cases isInput n with
    | true => rfl
    | false =>
      rw [if_neg Bool.false_ne_true, if_neg Bool.false_ne_true, List.take_zero, storeAll_nil]
  | exhausted => exact absurd hx hdue.transfer_not_exhausted

/-- Settles O47: the transfer cannot fail, and the position at which it completes is kept unless the step is
finished. -/
theorem tickMoves : Obligations.TickMoves := by
  intro s n st hmem hdue hready hbacked d last idx u v
  cases hx : transfer s n st.bytes with
  | done e o mem buf =>
    obtain ⟨_, hstored, hread, hfollow⟩ := transfer_completed hready hdue hx
    have hentry := (transfer_done hdue.armed.entry hx).1
    have hexec := exec_tick_done hready hdue hx
    rw [tickDone_eq, hstored, hread] at hexec
    refine ⟨if last then (st.first + st.count) % s.regs.entryCount n else e, if last then 0 else o, ?_, ?_, ?_⟩
    · intro hlast
      rw [if_pos hlast, if_pos hlast]
      exact ⟨rfl, rfl⟩
    · intro hlast
      rw [if_neg (Bool.eq_false_iff.mp hlast), if_neg (Bool.eq_false_iff.mp hlast)]
      exact ⟨hentry, fun c hc => hfollow c (hdue.armed.total ▸ hc)⟩
    · rw [hexec, Dma.stepped_eq]
      unfold State.transferred
      rw [committedRing_read]
      cases hcross : crossesBoundary s n st with
      | true =>
        have hv : v = u.setReg (.str .sts n) (s.reg (.str .sts n) ||| 0x04) := if_pos hcross
        have hsts : (s.regs.put (.str .lpib n) (nextLpib s n st)).rd (.str .sts n) = s.regs.rd (.str .sts n) :=
          RegFile.rd_put_of_ne _ (by simp) _
        rw [hv, if_pos rfl, State.orReg_eq, State.reg_eq, hsts]
        rfl
      | false =>
        have hv : v = u := if_neg (Bool.eq_false_iff.mp hcross)
        rw [hv, if_neg Bool.false_ne_true]
        rfl
  | failed mem =>
    obtain ⟨a, ha, hnone⟩ := (transfer_aborted hready hdue hmem hx).unbacked
    exact absurd hnone (hbacked a ha)
  | exhausted => exact absurd hx hdue.transfer_not_exhausted

end Sys2Proof.Machine
end

section
/-! TIME and SAVE (45_host_ops.md R300, R308): how far the time base moves, and what the record of a SAVE holds. -/

namespace Sys2Proof.Machine

theorem exec_time (d : Word) (s : State) : exec (.time d) s = timeStep d s := rfl

/-- TIME moves the time base alone (R300). -/
theorem timeStep_below {d : Word} {s : State} (h : s.now + d.toNat < 2 ^ 64) :
    timeStep d s = .next { s with now := s.now + d.toNat } := if_pos h

theorem timeStep_exhausted {d : Word} {s : State} (h : 2 ^ 64 ≤ s.now + d.toNat) :
    timeStep d s = .refused .timeExhausted := if_neg (Nat.not_lt.mpr h)

/-- The record of a SAVE has the rings' contents where the parameters say so (R308). -/
theorem snapshotOf_ringContents (s : State) (n : Stream) :
    (snapshotOf s).ringContents.get n = if s.cfg.saveRing then some (s.dmaOf n).ring else none := by
  simp [snapshotOf, State.dmaOf, Vector.get_eq_getElem]

/-- Settles O49: TIME by the bound on the time base, SAVE by the fields of its record. -/
theorem timeAndSave : Obligations.TimeAndSave := by
  intro s
  refine ⟨fun d hd => ?_, fun d hd => ?_, snapshotOf s, rfl, rfl, rfl, rfl, fun n => ?_⟩
  · rw [exec_time, timeStep_below hd]
  · rw [exec_time, timeStep_exhausted hd]
  · exact ⟨snapshotOf_perStream s n, snapshotOf_ringContents s n⟩

end Sys2Proof.Machine
end

section
/-! SINK (45_host_ops.md R303, R304): which bytes an input stream's sink produces, and the move in either direction as
one update of the state. -/

namespace Sys2Proof.Machine

/-! ### The bytes a sink produces (20_memory.md R92) -/

/-- The byte an input stream's sink produces `k` bytes from now. -/
def Oracle.captureAt (o : Oracle) (k : Nat) : Byte := (o.capture[k]?).getD (Config.captureByte (o.captureSeq + k))

/-- The answers left after `m` bytes were produced. -/
def Oracle.afterCapture (o : Oracle) (m : Nat) : Oracle :=
  { o with capture := o.capture.drop m, captureSeq := o.captureSeq + m }

theorem Oracle.nextCapture_eq (o : Oracle) : o.nextCapture = (o.captureAt 0, o.afterCapture 1) := by
  obtain ⟨codec, codecSeq, sink, sinkSeq, capture, captureSeq⟩ := o
  cases capture with
  | nil => rfl
  | cons b rest => rfl

theorem Oracle.captureAt_afterCapture (o : Oracle) (m k : Nat) :
    (o.afterCapture m).captureAt k = o.captureAt (m + k) := by
  unfold Oracle.captureAt Oracle.afterCapture
  dsimp only
  rw [List.getElem?_drop, Nat.add_assoc]

theorem Oracle.afterCapture_afterCapture (o : Oracle) (m k : Nat) :
    (o.afterCapture m).afterCapture k = o.afterCapture (m + k) := by
  unfold Oracle.afterCapture
  dsimp only
  rw [List.drop_drop, Nat.add_assoc]

theorem Oracle.takeCapture_succ (o : Oracle) (m : Nat) :
    o.takeCapture (m + 1) =
      (o.captureAt 0 :: ((o.afterCapture 1).takeCapture m).1, ((o.afterCapture 1).takeCapture m).2) := by
  rw [Oracle.takeCapture, Oracle.nextCapture_eq]

/-- Producing `m` bytes uses `m` answers (R92, R303). -/
theorem Oracle.takeCapture_snd (m : Nat) : ∀ o : Oracle, (o.takeCapture m).2 = o.afterCapture m := by
  induction m with
  | zero => exact fun _ => rfl
  | succ m ih =>
    intro o
    rw [Oracle.takeCapture_succ, ih, Oracle.afterCapture_afterCapture, Nat.add_comm]

/-- The bytes produced are the answers in their order (R92, R303). -/
theorem Oracle.getElem?_takeCapture (m : Nat) : ∀ (o : Oracle) (j : Nat), j < m →
    (o.takeCapture m).1[j]? = some (o.captureAt j) := by
  induction m with
  | zero => exact fun _ j h => absurd h (Nat.not_lt_zero j)
  | succ m ih =>
    intro o j h
    rw [Oracle.takeCapture_succ]
    cases j with
    | zero => rfl
    | succ j =>
      rw [List.getElem?_cons_succ, ih _ j (by omega), Oracle.captureAt_afterCapture, Nat.add_comm]

/-! ### The moves (R303) -/

theorem exec_sink (n : Stream) (k : Word) (s : State) :
    exec (.sink (BitVec.ofNat 4 n.val) k) s = .next (sinkStep n k.toNat s) := by
  have hexec : exec (.sink (BitVec.ofNat 4 n.val) k) s = execSink (BitVec.ofNat 4 n.val) k s := rfl
  rw [hexec]
  unfold execSink
  rw [streamOf_ofNat]

section
variable {s : State} {n : Stream}

theorem sinkStep_of_idle (hidle : ((s.dmaOf n).running && (s.dmaOf n).sinkOk) = false) (k : Nat) :
    sinkStep n k s = returnMoved 0 s := by
  unfold sinkStep
  dsimp only
  rw [hidle, if_neg Bool.false_ne_true]

/-- SINK of an input stream: as many bytes as there is room for go to the ring's end. -/
theorem sinkStep_of_input (hrun : (s.dmaOf n).running = true) (hok : (s.dmaOf n).sinkOk = true)
    (hinput : isInput n = true) (k : Nat) :
    sinkStep n k s = returnMoved (min k (s.cfg.ringBytes.get n - (s.dmaOf n).ring.length))
      (sinkCapture n (min k (s.cfg.ringBytes.get n - (s.dmaOf n).ring.length)) s) := by
  unfold sinkStep
  dsimp only
  rw [hrun, hok, hinput]
  rfl

/-- SINK of an output stream: the ring's oldest bytes go to the sink. -/
theorem sinkStep_of_output (hrun : (s.dmaOf n).running = true) (hok : (s.dmaOf n).sinkOk = true)
    (houtput : isInput n = false) (k : Nat) :
    sinkStep n k s =
      returnMoved (min k (s.dmaOf n).ring.length) (sinkRender n (min k (s.dmaOf n).ring.length) s) := by
  unfold sinkStep
  dsimp only
  rw [hrun, hok, houtput]
  rfl

end

/-- What a capture changes, as one update (R303). -/
theorem sinkCapture_eq (n : Stream) (m : Nat) (s : State) :
    sinkCapture n m s =
      { s with oracle := s.oracle.afterCapture m }.setDma n
        { s.dmaOf n with ring := (s.dmaOf n).ring ++ (s.oracle.takeCapture m).1 } := by
  rw [← Oracle.takeCapture_snd]
  rfl

/-- Settles O50: one case for a sink that takes part in no move, one for each direction. -/
theorem sinkMoves : Obligations.SinkMoves := by
  intro s n k d room taken
  refine ⟨fun hidle => ?_, fun hrun hok hinput => ?_, fun hrun hok houtput => ?_⟩
  · rw [exec_sink, sinkStep_of_idle hidle]
    rfl
  · refine ⟨(s.oracle.takeCapture room).1, length_takeCapture room s.oracle,
      fun j hj => Oracle.getElem?_takeCapture room s.oracle j hj, ?_⟩
    rw [exec_sink, sinkStep_of_input hrun hok hinput, sinkCapture_eq]
    rfl
  · rw [exec_sink, sinkStep_of_output hrun hok houtput]
    rfl

end Sys2Proof.Machine
end

section
/-! Which streams a RESTORE re-arms (45_host_ops.md R305, R309, R311): the state in which a stream's turn comes, the
branches of `rearm` in that state, and which of the sinks' answers belong to the stream. -/

namespace Sys2Proof.Machine

/-! ### The turn of a stream -/

/-- The state RESTORE has reached when the turn of stream `n` comes: the lower streams are done (R309). -/
def restoredBelow (r : Snapshot) (s : State) (n : Stream) : State :=
  (allStreams.take n.val).foldl (restoreStream r) (restoreCore r (disableAll s))

theorem allStreams_split : ∀ n : Stream, allStreams = allStreams.take n.val ++ n :: allStreams.drop (n.val + 1) := by
  decide

theorem filter_lower : ∀ n : Stream, (allStreams.filter fun m => decide (m.val < n.val)) = allStreams.take n.val := by
  decide

theorem notMem_take_self : ∀ n : Stream, n ∉ allStreams.take n.val := by decide

theorem notMem_drop_of_le : ∀ m n : Stream, m.val ≤ n.val → m ∉ allStreams.drop (n.val + 1) := by decide

theorem val_lt_of_mem_take : ∀ m n : Stream, m ∈ allStreams.take n.val → m.val < n.val := by decide

/-- RESTORE goes through the lower streams, the stream, and the higher streams. -/
theorem restored_split (r : Snapshot) (s : State) (n : Stream) :
    restored r s =
      (allStreams.drop (n.val + 1)).foldl (restoreStream r) (restoreStream r (restoredBelow r s n) n) := by
  unfold restored restoredBelow
  conv => lhs; rw [allStreams_split n]
  rw [List.foldl_append, List.foldl_cons]

theorem restoredBelow_regs (r : Snapshot) (s : State) (n : Stream) : (restoredBelow r s n).regs = r.regs :=
  foldl_restore_regs r _ _

theorem quiet_restoredBelow (r : Snapshot) (s : State) (n : Stream) : Quiet s (restoredBelow r s n) :=
  ((quiet_disableAll s).trans (quiet_restoreCore r _)).trans
    (quiet_foldl (fun s n => (onlyStream_restoreStream r s n).quiet) _ _)

/-- A stream's engine ends as its own turn leaves it. -/
theorem restored_dmaOf_turn (r : Snapshot) (s : State) (n : Stream) :
    (restored r s).dmaOf n = (restoreStream r (restoredBelow r s n) n).dmaOf n := by
  rw [restored_split r s n]
  exact foldl_restore_other r n _ _ (notMem_drop_of_le n n (Nat.le_refl _))

/-- The engines of the lower streams are as they stay when the stream's turn comes. -/
theorem restored_dmaOf_lower (r : Snapshot) (s : State) {m n : Stream} (h : m.val < n.val) :
    (restored r s).dmaOf m = (restoredBelow r s n).dmaOf m := by
  rw [restored_split r s n, foldl_restore_other r m _ _ (notMem_drop_of_le m n (Nat.le_of_lt h))]
  exact (onlyStream_restoreStream r _ n).dma m fun heq => absurd h (heq ▸ Nat.lt_irrefl _)

/-! ### The answers of the sinks (20_memory.md R92, R305) -/

/-- The lower streams re-armed are those armed when the stream's turn comes. -/
theorem armedBelow_restored (r : Snapshot) (s : State) (n : Stream) :
    armedBelow (restored r s) n =
      ((allStreams.take n.val).filter fun m => ((restoredBelow r s n).dmaOf m).running).length := by
  unfold armedBelow
  simp only [Bool.and_comm (decide _)]
  rw [← List.filter_filter, filter_lower]
  refine congrArg List.length (List.filter_congr fun m hm => ?_)
  rw [restored_dmaOf_lower r s (val_lt_of_mem_take m n hm)]

/-- Two answers are used for each lower stream that is re-armed (R305, R309). -/
theorem sinkAnswerAt_restoredBelow (r : Snapshot) (s : State) (n : Stream) (k : Nat) :
    sinkAnswerAt (restoredBelow r s n) k = sinkAnswerAt s (2 * armedBelow (restored r s) n + k) := by
  have hstart : (restoreCore r (disableAll s)).oracle = s.oracle := by
    rw [disableAll_eq]
    rfl
  have hasked : (restoredBelow r s n).oracle.sink = s.oracle.sink.drop (2 * armedBelow (restored r s) n) ∧
      (restoredBelow r s n).oracle.sinkSeq = s.oracle.sinkSeq + 2 * armedBelow (restored r s) n := by
    rw [armedBelow_restored, ← hstart]
    exact foldl_restore_asked r _ (allStreams_nodup.sublist (List.take_sublist _ _)) _
  unfold sinkAnswerAt
  rw [hasked.1, hasked.2, List.getElem?_drop, Nat.add_assoc]

/-! ### The branches of `rearm` (R309) -/

/-- The engine's record once its list is taken in (R309). -/
def listedDma (s : State) (n : Stream) (bytes : List Byte) : Dma :=
  { s.dmaOf n with boundTag := s.regs.tag n, bdl := decodeBdl bytes (s.regs.entryCount n) }

theorem bindTag_dmaOf (n : Stream) (s : State) :
    (bindTag n s).dmaOf n = { s.dmaOf n with boundTag := s.regs.tag n } :=
  (State.dmaOf_setDma s n n _).trans (if_pos rfl)

theorem bindTag_fetchBdl (n : Stream) (s : State) : fetchBdl (bindTag n s) n = fetchBdl s n := rfl

theorem loadBdl_bindTag_dmaOf (n : Stream) (bytes : List Byte) (s : State) :
    (loadBdl n bytes (bindTag n s)).dmaOf n = listedDma s n bytes := by
  rw [loadBdl_dmaOf, bindTag_dmaOf]
  rfl

theorem loadBdl_bindTag_regs (n : Stream) (bytes : List Byte) (s : State) :
    (loadBdl n bytes (bindTag n s)).regs = s.regs := loadBdl_regs n bytes (bindTag n s)

theorem quiet_loadBdl_bindTag (n : Stream) (bytes : List Byte) (s : State) :
    Quiet s (loadBdl n bytes (bindTag n s)) :=
  (onlyStream_setDma s n _).quiet.trans (onlyStream_loadBdl n bytes (bindTag n s)).quiet

theorem loadBdl_bindTag_startFormat (n : Stream) (bytes : List Byte) (s : State) (bdl : List Bdle) :
    startFormat (loadBdl n bytes (bindTag n s)) n bdl = startFormat s n bdl :=
  startFormat_congr (quiet_loadBdl_bindTag n bytes s).cfg fun _ _ => by rw [loadBdl_bindTag_regs]

section
variable {r : Snapshot} {s : State} {n : Stream} {bytes : List Byte}

/-- A stream whose list cannot be read keeps its position and its tag (R309). -/
theorem rearm_unread (hfetch : fetchBdl s n = none) :
    (rearm r n s).dmaOf n = { s.dmaOf n with boundTag := s.regs.tag n } := by
  rw [rearm_eq, bindTag_fetchBdl, hfetch]
  exact bindTag_dmaOf n s

/-- A stream that meets the preconditions and holds the saved position is resumed (R309). -/
theorem rearm_resumed {f : Fmt} (hfetch : fetchBdl s n = some bytes)
    (hformat : startFormat s n (listedDma s n bytes).bdl = some f)
    (hposition : positionOk (listedDma s n bytes) (s.regs.entryCount n) = true) :
    rearm r n s = resumeStream r n f (loadBdl n bytes (bindTag n s)) := by
  rw [rearm_eq, bindTag_fetchBdl, hfetch]
  dsimp only
  rw [loadBdl_bindTag_dmaOf, loadBdl_bindTag_regs, loadBdl_bindTag_startFormat, hformat]
  exact if_pos hposition

/-- A stream that fails a precondition, or whose saved position lies outside the list, keeps position and list
(R309, R311). -/
theorem rearm_refused (hfetch : fetchBdl s n = some bytes)
    (hno : positionOk (listedDma s n bytes) (s.regs.entryCount n) = false ∨
      startFormat s n (listedDma s n bytes).bdl = none) :
    (rearm r n s).dmaOf n = listedDma s n bytes := by
  rw [rearm_eq, bindTag_fetchBdl, hfetch]
  dsimp only
  rw [loadBdl_bindTag_dmaOf, loadBdl_bindTag_regs, loadBdl_bindTag_startFormat]
  cases hformat : startFormat s n (listedDma s n bytes).bdl with
  | none => exact loadBdl_bindTag_dmaOf n bytes s
  | some f =>
    have hposition : positionOk (listedDma s n bytes) (s.regs.entryCount n) = false :=
      hno.resolve_right (by rw [hformat]; exact Option.some_ne_none f)
    dsimp only
    rw [hposition, if_neg Bool.false_ne_true]
    exact loadBdl_bindTag_dmaOf n bytes s

end

/-! ### The position of a resumed stream (R309) -/

/-- The step that `schedIdx` of R309 finds contains the entry. -/
theorem stepContaining_contains {sched : List Step} {e : Nat} {st : Step}
    (h : sched[stepContaining sched e]? = some st) : st.first ≤ e ∧ e < st.first + st.count := by
  obtain ⟨hindex, rfl⟩ := List.getElem?_eq_some_iff.mp h
  exact of_decide_eq_true (List.findIdx_getElem (w := hindex))

/-- The saved position lies in the list as `rearm` decides it. -/
theorem positionOk_iff {d : Dma} {cnt : Nat} (hlen : d.bdl.length = cnt) :
    positionOk d cnt = true ↔ ∃ e, d.bdl[d.curEntry]? = some e ∧ d.curOff ≤ e.len.toNat := by
  unfold positionOk
  cases hentry : d.bdl[d.curEntry]? with
  | none => simp
  | some e =>
    have hlt : d.curEntry < cnt := hlen ▸ (List.getElem?_eq_some_iff.mp hentry).1
    simp [hlt]

/-- The record of a resumed stream, with `st` as the step that contains its position (R309). -/
theorem resumeStream_dmaOf_step (r : Snapshot) {n : Stream} {f : Fmt} {s : State} {st : Step}
    (hst : (buildSchedule s.cfg (s.dmaOf n).bdl f)[stepContaining (buildSchedule s.cfg (s.dmaOf n).bdl f)
      (s.dmaOf n).curEntry]? = some st) :
    (resumeStream r n f s).dmaOf n =
      { s.dmaOf n with
        sched := buildSchedule s.cfg (s.dmaOf n).bdl f,
        schedIdx := stepContaining (buildSchedule s.cfg (s.dmaOf n).bdl f) (s.dmaOf n).curEntry,
        schedLoop := loopInStep (s.dmaOf n).bdl st (s.dmaOf n).curEntry (s.dmaOf n).curOff,
        sinkOk := sinkAnswerAt s 0 && sinkAnswerAt s 1,
        ring := restoredRing s r n (sinkAnswerAt s 0 && sinkAnswerAt s 1),
        tsLast := min s.now (s.dmaOf n).tsNext, running := true } := by
  unfold resumeStream restoredRing
  dsimp only
  rw [hst, State.dmaOf_setDma, if_pos rfl, (askSink_eq n f s).1, noteBackend_cfg, askSink_cfg, noteBackend_now,
    askSink_now]

/-! ### The turn of a stream, case by case (R309, R311) -/

/-- The stream was running out of reset when the record was saved. -/
def WasRunning (r : Snapshot) (n : Stream) : Prop :=
  r.regs.crst = true ∧ r.regs.srst n = false ∧ r.regs.run n = true

section
variable {r : Snapshot} {u s : State} {n : Stream} {bytes : List Byte} {bdl : List Bdle}

theorem restorePosition_regs (hregs : s.regs = r.regs) : (restorePosition r n s).regs = r.regs := hregs

theorem restorePosition_dmaOf (hregs : s.regs = r.regs) : (restorePosition r n s).dmaOf n = placedDma r n := by
  refine (State.dmaOf_setDma s n n _).trans ((if_pos rfl).trans ?_)
  rw [hregs]
  rfl

theorem restoreStream_of_not_running (hregs : s.regs = r.regs) (hstopped : ¬ WasRunning r n) :
    (restoreStream r s n).dmaOf n = placedDma r n := by
  unfold restoreStream
  dsimp only
  rw [restorePosition_regs hregs, if_neg]
  · exact restorePosition_dmaOf hregs
  · simpa [WasRunning, and_assoc] using hstopped

theorem restoreStream_of_running (hregs : s.regs = r.regs) (hrun : WasRunning r n) :
    restoreStream r s n = rearm r n (restorePosition r n s) := by
  obtain ⟨hcrst, hsrst, hrun⟩ := hrun
  unfold restoreStream
  dsimp only
  rw [restorePosition_regs hregs, hcrst, hsrst, hrun]
  rfl

/-! What the turn reads is guest memory, the parameters and the record. -/

theorem restorePosition_fetchBdl (hregs : s.regs = r.regs) (hquiet : Quiet u s) :
    fetchBdl (restorePosition r n s) n = u.mem.read (r.regs.bdlBase n) (16 * r.regs.entryCount n) := by
  rw [← hregs, ← hquiet.mem]
  rfl

theorem restorePosition_startFormat (hregs : s.regs = r.regs) (hquiet : Quiet u s) (bdl : List Bdle) :
    startFormat (restorePosition r n s) n bdl = startFormat { u with regs := r.regs } n bdl :=
  startFormat_congr (s := { u with regs := r.regs }) (t := restorePosition r n s) hquiet.cfg fun _ _ =>
    congrArg (RegFile.rd · _) hregs

theorem restorePosition_listedDma (hregs : s.regs = r.regs) (hlist : ListRead r.regs n bytes bdl) :
    listedDma (restorePosition r n s) n bytes = { placedDma r n with boundTag := r.regs.tag n, bdl := bdl } := by
  unfold listedDma
  rw [restorePosition_dmaOf hregs, restorePosition_regs hregs, ← hlist.eq_decodeBdl]

theorem restorePosition_positionOk (hregs : s.regs = r.regs) (hlist : ListRead r.regs n bytes bdl) :
    positionOk (listedDma (restorePosition r n s) n bytes) ((restorePosition r n s).regs.entryCount n) = true ↔
      SavedInside r n bdl := by
  rw [restorePosition_listedDma hregs hlist, restorePosition_regs hregs]
  exact positionOk_iff hlist.1

theorem restoreStream_unread (hregs : s.regs = r.regs) (hquiet : Quiet u s) (hrun : WasRunning r n)
    (hread : u.mem.read (r.regs.bdlBase n) (16 * r.regs.entryCount n) = none) :
    (restoreStream r s n).dmaOf n = { placedDma r n with boundTag := r.regs.tag n } := by
  rw [restoreStream_of_running hregs hrun, rearm_unread ((restorePosition_fetchBdl hregs hquiet).trans hread),
    restorePosition_dmaOf hregs, restorePosition_regs hregs]

theorem restoreStream_refused (hregs : s.regs = r.regs) (hquiet : Quiet u s) (hrun : WasRunning r n)
    (hread : u.mem.read (r.regs.bdlBase n) (16 * r.regs.entryCount n) = some bytes)
    (hlist : ListRead r.regs n bytes bdl)
    (hno : ¬ SavedInside r n bdl ∨ ¬ ∃ fmt, StartOk { u with regs := r.regs } n bdl fmt) :
    (restoreStream r s n).dmaOf n = { placedDma r n with boundTag := r.regs.tag n, bdl := bdl } := by
  have hdma := restorePosition_listedDma (s := s) hregs hlist
  rw [restoreStream_of_running hregs hrun, rearm_refused ((restorePosition_fetchBdl hregs hquiet).trans hread), hdma]
  refine hno.imp (fun houtside => ?_) (fun hunfit => ?_)
  · exact Bool.eq_false_iff.mpr (mt (restorePosition_positionOk hregs hlist).mp houtside)
  · rw [hdma, restorePosition_startFormat hregs hquiet, startFormat_eq_none_iff]
    exact hunfit

/-- A stream that is re-armed: its schedule and its place in it, the sink's two answers, the ring and the time
(R309, R305). -/
theorem restoreStream_rearmed {fmt : Fmt} (hregs : s.regs = r.regs) (hquiet : Quiet u s) (hrun : WasRunning r n)
    (hread : u.mem.read (r.regs.bdlBase n) (16 * r.regs.entryCount n) = some bytes)
    (hlist : ListRead r.regs n bytes bdl) (hinside : SavedInside r n bdl)
    (hok : StartOk { u with regs := r.regs } n bdl fmt) :
    ∃ st, (buildSchedule u.cfg bdl fmt)[stepContaining (buildSchedule u.cfg bdl fmt)
        (r.perStream.get n).curEntry]? = some st ∧
      (restoreStream r s n).dmaOf n =
        { placedDma r n with
          boundTag := r.regs.tag n, bdl := bdl, sched := buildSchedule u.cfg bdl fmt,
          schedIdx := stepContaining (buildSchedule u.cfg bdl fmt) (r.perStream.get n).curEntry,
          schedLoop := loopInStep bdl st (r.perStream.get n).curEntry (r.perStream.get n).curOff,
          sinkOk := sinkAnswerAt s 0 && sinkAnswerAt s 1,
          ring := restoredRing u r n (sinkAnswerAt s 0 && sinkAnswerAt s 1),
          tsLast := min u.now (r.perStream.get n).tsNext, running := true } := by
  have hdma := restorePosition_listedDma (s := s) hregs hlist
  have hformat : startFormat (restorePosition r n s) n (listedDma (restorePosition r n s) n bytes).bdl = some fmt := by
    rw [hdma, restorePosition_startFormat hregs hquiet, startFormat_eq_some_iff]
    exact hok
  have hresumed := rearm_resumed (r := r) ((restorePosition_fetchBdl hregs hquiet).trans hread) hformat
    ((restorePosition_positionOk hregs hlist).mpr hinside)
  have hloaded := (loadBdl_bindTag_dmaOf n bytes (restorePosition r n s)).trans hdma
  have hturn := quiet_loadBdl_bindTag n bytes (restorePosition r n s)
  have hcfg : (loadBdl n bytes (bindTag n (restorePosition r n s))).cfg = u.cfg := hturn.cfg.trans hquiet.cfg
  have hnow : (loadBdl n bytes (bindTag n (restorePosition r n s))).now = u.now := hturn.now.trans hquiet.now
  have horacle : (loadBdl n bytes (bindTag n (restorePosition r n s))).oracle = s.oracle := loadBdl_oracle n bytes _
  rw [restoreStream_of_running hregs hrun, hresumed]
  generalize loadBdl n bytes (bindTag n (restorePosition r n s)) = w at hloaded hcfg hnow horacle ⊢
  have hanswer (k : Nat) : sinkAnswerAt w k = sinkAnswerAt s k := by
    unfold sinkAnswerAt
    rw [horacle]
  obtain ⟨e, hentry, _⟩ := hinside
  obtain ⟨st, hst⟩ := stepContaining_some (cfg := u.cfg) (f := fmt) (List.getElem?_eq_some_iff.mp hentry).1
  refine ⟨st, hst, ?_⟩
  rw [resumeStream_dmaOf_step r (st := st) (by rw [hloaded, hcfg]; exact hst), hloaded, hanswer, hanswer, hnow, hcfg]
  unfold restoredRing
  rw [hcfg]
  rfl

end

/-- Settles O53: the stream's engine ends as its own turn leaves it, in a state that differs from the given one, for
what the turn reads, by the saved registers and the answers used for the lower streams. -/
theorem restoreRearms : Obligations.RestoreRearms := by
  intro u r hsaved
  have hback : (restore r u).regs = r.regs := (State.driveWire_regs _ _).trans (restored_regs r u)
  refine ⟨restore r u, exec_restore_saved hsaved, hback, fun n => ?_⟩
  have hdma (m : Stream) : (restore r u).dmaOf m = (restored r u).dmaOf m := by
    rw [restore_eq, State.dmaOf_driveWire]
  have hbelow : armedBelow (restore r u) n = armedBelow (restored r u) n := by
    unfold armedBelow
    simp only [hdma]
  have hregs := restoredBelow_regs r u n
  have hquiet := quiet_restoredBelow r u n
  rw [hdma, restored_dmaOf_turn, hbelow]
  refine ⟨restoreStream_of_not_running hregs, fun hcrst hsrst hrun => ⟨?_, fun bytes bdl hread hlist => ⟨?_, ?_⟩⟩⟩
  · exact restoreStream_unread hregs hquiet ⟨hcrst, hsrst, hrun⟩
  · exact restoreStream_refused hregs hquiet ⟨hcrst, hsrst, hrun⟩ hread hlist
  · intro fmt hinside hok ok
    obtain ⟨st, hst, heq⟩ := restoreStream_rearmed hregs hquiet ⟨hcrst, hsrst, hrun⟩ hread hlist hinside hok
    obtain ⟨hfirst, hlast⟩ := stepContaining_contains hst
    rw [sinkAnswerAt_restoredBelow, sinkAnswerAt_restoredBelow] at heq
    exact ⟨_, st, hst, hfirst, hlast, heq⟩

end Sys2Proof.Machine
end

section
/-! The wall clock (60_exceptions.md R340, R341): the time at which the slowest armed stream completed its last
transfer. -/

namespace Sys2Proof.Machine

/-- The times that the wall clock looks at (R340). -/
theorem mem_runningLasts {s : State} {x : Nat} :
    x ∈ runningLasts s ↔ ∃ n, (s.dmaOf n).running = true ∧ x = (s.dmaOf n).tsLast := by
  simp only [runningLasts, List.mem_map, List.mem_filter, mem_allStreams, true_and, eq_comm]

/-- The least of a time and of those in a list is the one that is below all of them and is one of them. -/
theorem min_foldl_min_eq {now a t : Nat} {rest : List Nat} (hnow : t ≤ now) (hle : ∀ x ∈ a :: rest, t ≤ x)
    (hmem : t = now ∨ t ∈ a :: rest) : min now (rest.foldl min a) = t := by
  obtain ⟨hin, hleast⟩ := List.min?_eq_some_iff.mp (List.min?_cons' (x := a) (xs := rest))
  have hbelow := hle _ hin
  rcases hmem with rfl | hmem
  · exact Nat.min_eq_left hbelow
  · have habove := hleast t hmem
    omega

/-- WALCLK.EVAL by the least of `now` and the armed engines' last transfers (R340). -/
theorem walclkEval_of_least {s : State} {t : Nat} (hnow : t ≤ s.now) (hle : ∀ x ∈ runningLasts s, t ≤ x)
    (hmem : t = s.now ∨ t ∈ runningLasts s) (harmed : runningLasts s ≠ []) :
    walclkEval s = s.setReg (.glob .walclk) (walclkValue s.cfg (t - s.wcEpoch)) := by
  unfold walclkEval
  cases hlasts : runningLasts s with
  | nil => exact absurd hlasts harmed
  | cons a rest =>
    rw [hlasts] at hle hmem
    dsimp only
    rw [min_foldl_min_eq hnow hle hmem]

/-- Settles O11: no armed engine has no time to look at; else the fold over the times is the least of them. -/
theorem wallClock : Obligations.WallClock := by
  intro s
  refine ⟨walclkEval_idle, fun t ⟨n, hn⟩ hnow hle hleast => ?_⟩
  have hmem : t = s.now ∨ t ∈ runningLasts s := hleast.imp_right mem_runningLasts.mpr
  have hbelow : ∀ x ∈ runningLasts s, t ≤ x := fun x hx => by
    obtain ⟨m, hm, rfl⟩ := mem_runningLasts.mp hx
    exact hle m hm
  have helapsed : (if s.wcEpoch ≤ t then t - s.wcEpoch else 0) = t - s.wcEpoch := by
    split <;> omega
  rw [walclkEval_of_least hnow hbelow hmem (List.ne_nil_of_mem (mem_runningLasts.mpr ⟨n, hn, rfl⟩)), helapsed]
  rfl

end Sys2Proof.Machine
end

section
/-! The aggregated status and the line formula (60_exceptions.md R328, R330), bit by bit. -/

namespace Sys2Proof.Machine

/-! ### The status of a stream and of the controller (R328) -/

theorem RegFile.sis_iff (f : RegFile) (n : Stream) :
    f.sis n = true ↔ f.rd (.str .sts n) &&& f.rd (.str .ctl n) &&& 0x1C ≠ 0 := bne_iff_ne

theorem RegFile.cis_iff (f : RegFile) :
    f.cis = true ↔
      ((f.rd (.glob .rirbsts)).getLsbD 0 = true ∧ (f.rd (.glob .rirbctl)).getLsbD 0 = true) ∨
        f.rd (.glob .statests) &&& f.rd (.glob .wakeen) &&& 0x7FFF ≠ 0 := by
  unfold RegFile.cis RegFile.rintfl RegFile.rintctl
  rw [Bool.or_eq_true, Bool.and_eq_true, bne_iff_ne]

theorem any_allStreams_iff (p : Stream → Bool) : allStreams.any p = true ↔ ∃ n, p n = true := by
  simp only [List.any_eq_true, mem_allStreams, true_and]

theorem RegFile.gis_iff (f : RegFile) : f.gis = true ↔ f.cis = true ∨ ∃ n, f.sis n = true := by
  unfold RegFile.gis
  rw [Bool.or_eq_true, any_allStreams_iff]

/-- Settles O13: each conjunct and disjunct of the formula is one of R330. -/
theorem lineFormula : Obligations.LineFormula := by
  intro s sis cis
  unfold RegFile.line
  rw [Bool.and_eq_true, Bool.or_eq_true, Bool.and_eq_true, any_allStreams_iff, RegFile.cis_iff]
  simp only [Bool.and_eq_true, RegFile.sis_iff]
  rfl

/-! ### The bits of INTSTS (R328) -/

theorem getLsbD_bif_twoPow (b : Bool) {i : Nat} (hi : i < 32) (k : Nat) :
    (bif b then BitVec.twoPow 32 i else 0#32).getLsbD k = (b && decide (i = k)) := by
  cases b with
  | true => simp [BitVec.getLsbD_twoPow, hi]
  | false => simp

/-- One bit for each stream that a predicate holds of. -/
theorem getLsbD_foldl_or (p : Stream → Bool) (k : Nat) : ∀ (l : List Stream) (acc : Word),
    (l.foldl (fun acc n => acc ||| (bif p n then 1#32 <<< n.val else 0#32)) acc).getLsbD k =
      (acc.getLsbD k || l.any fun n => p n && decide (n.val = k)) := by
  intro l
  induction l with
  | nil => intro acc; simp
  | cons n rest ih =>
    intro acc
    have hn : n.val < 32 := Nat.lt_trans n.isLt (by decide)
    rw [List.foldl_cons, ih, BitVec.getLsbD_or, ← BitVec.twoPow_eq, getLsbD_bif_twoPow _ hn, List.any_cons, Bool.or_assoc]

theorem RegFile.sisBits_getLsbD (f : RegFile) (k : Nat) :
    f.sisBits.getLsbD k = allStreams.any fun n => f.sis n && decide (n.val = k) := by
  unfold RegFile.sisBits
  rw [getLsbD_foldl_or]
  simp

theorem RegFile.sisBits_stream (f : RegFile) (n : Stream) : f.sisBits.getLsbD n.val = f.sis n := by
  rw [Bool.eq_iff_iff, RegFile.sisBits_getLsbD, any_allStreams_iff]
  simp only [Bool.and_eq_true, decide_eq_true_eq]
  constructor
  · rintro ⟨m, hm, hmn⟩
    rwa [← Fin.ext hmn]
  · exact fun h => ⟨n, h, rfl⟩

theorem RegFile.sisBits_above (f : RegFile) {k : Nat} (hk : 8 ≤ k) : f.sisBits.getLsbD k = false := by
  rw [Bool.eq_false_iff, RegFile.sisBits_getLsbD, Ne, any_allStreams_iff]
  rintro ⟨n, hn⟩
  have hnk : n.val = k := of_decide_eq_true (Bool.and_eq_true_iff.mp hn).2
  omega

/-- A bit of INTSTS: GIS, CIS or a stream's (R328). -/
theorem RegFile.intsts_getLsbD (f : RegFile) (k : Nat) :
    f.intsts.getLsbD k = (((f.gis && decide (31 = k)) || (f.cis && decide (30 = k))) || f.sisBits.getLsbD k) := by
  have hflags : f.intsts =
      (bif f.gis then BitVec.twoPow 32 31 else 0#32) ||| (bif f.cis then BitVec.twoPow 32 30 else 0#32) ||| f.sisBits := rfl
  rw [hflags, BitVec.getLsbD_or, BitVec.getLsbD_or, getLsbD_bif_twoPow _ (by decide), getLsbD_bif_twoPow _ (by decide)]

theorem RegFile.intsts_stream (f : RegFile) (n : Stream) : f.intsts.getLsbD n.val = f.sis n := by
  have hn : 31 ≠ n.val ∧ 30 ≠ n.val := by omega
  rw [RegFile.intsts_getLsbD, RegFile.sisBits_stream]
  simp [hn]

theorem RegFile.intsts_between (f : RegFile) {k : Nat} (hlow : 8 ≤ k) (hhigh : k < 30) :
    f.intsts.getLsbD k = false := by
  have hk : 31 ≠ k ∧ 30 ≠ k := by omega
  rw [RegFile.intsts_getLsbD, RegFile.sisBits_above f hlow]
  simp [hk]

theorem RegFile.intsts_cis (f : RegFile) : f.intsts.getLsbD 30 = f.cis := by
  rw [RegFile.intsts_getLsbD, RegFile.sisBits_above f (by decide)]
  simp

theorem RegFile.intsts_gis (f : RegFile) : f.intsts.getLsbD 31 = f.gis := by
  rw [RegFile.intsts_getLsbD, RegFile.sisBits_above f (by decide)]
  simp

/-! ### What INTSTS depends on, and its read (R133, R328) -/

theorem RegFile.intsts_put_intctl (f : RegFile) (v : Word) : (f.put (.glob .intctl) v).intsts = f.intsts := by
  have hsis : (f.put (.glob .intctl) v).sis = f.sis := by
    funext n
    unfold RegFile.sis
    rw [RegFile.rd_put_of_ne _ (by simp), RegFile.rd_put_of_ne _ (by simp)]
  have hcis : (f.put (.glob .intctl) v).cis = f.cis := by
    unfold RegFile.cis RegFile.rintfl RegFile.rintctl
    rw [RegFile.rd_put_of_ne _ (by decide), RegFile.rd_put_of_ne _ (by decide), RegFile.rd_put_of_ne _ (by decide),
      RegFile.rd_put_of_ne _ (by decide)]
  unfold RegFile.intsts RegFile.gis RegFile.sisBits
  rw [hsis, hcis]

/-- Every bit of the aggregated status is a readable bit of INTSTS (R35). -/
theorem RegFile.intsts_readable (f : RegFile) : f.intsts &&& (Reg.glob .intsts).rmask = f.intsts := by
  apply BitVec.eq_of_getLsbD_eq
  intro k hk
  have hmask : (Reg.glob .intsts).rmask.getLsbD k = decide (k < 8 ∨ k = 30 ∨ k = 31) := by
    revert k
    decide
  rw [BitVec.getLsbD_and, hmask]
  by_cases hbetween : 8 ≤ k ∧ k < 30
  · rw [RegFile.intsts_between f hbetween.1 hbetween.2, Bool.false_and]
  · rw [decide_eq_true (by omega), Bool.and_true]

/-- Settles O12: the bits of INTSTS one by one, none of them from INTCTL, all of them readable. -/
theorem interruptStatus : Obligations.InterruptStatus := by
  intro s sis cis
  refine ⟨fun n => ?_, fun k => RegFile.intsts_between s.regs, ?_, ?_, RegFile.intsts_put_intctl s.regs, ?_⟩
  · rw [RegFile.intsts_stream]
    exact s.regs.sis_iff n
  · rw [RegFile.intsts_cis]
    exact s.regs.cis_iff
  · rw [RegFile.intsts_gis, RegFile.gis_iff, RegFile.cis_iff]
    simp only [RegFile.sis_iff]
    rfl
  · obtain ⟨t, hexec, _, _, hread⟩ := readReturnsBytes (.rdINTSTS 0 .w4) 0x24 .w4 s (.inl ⟨_, _, rfl, rfl⟩)
    exact ⟨t, hexec, (hread (.reg (.glob .intsts)) rfl rfl).trans s.regs.intsts_readable⟩

end Sys2Proof.Machine
end
section
/-! The interrupt wire (60_exceptions.md R331, R332): a drive of the wire keeps its events alternating, and every
operation that changes what the line formula reads ends with one to its value. -/

namespace Sys2Proof.Machine

/-! ### The events on the wire (R331) -/

/-- An operation that leaves the wire alone keeps the history. -/
theorem WireHistoryOk.congr {s t : State} (h : WireHistoryOk s) (hlevel : t.irqLevel = s.irqLevel)
    (hwire : t.out.wire = s.out.wire) : WireHistoryOk t := by
  unfold WireHistoryOk
  rwa [hlevel, hwire]

theorem Quiet.history {s t : State} (h : Quiet s t) (hs : WireHistoryOk s) : WireHistoryOk t :=
  hs.congr h.irqLevel h.wire

theorem RingFrame.history {s t : State} (h : RingFrame s t) (hs : WireHistoryOk s) : WireHistoryOk t :=
  hs.congr h.ring.irqLevel (by rw [h.ring.out])

/-- A level that differs from the last one may follow it. -/
theorem alternates_cons {old new : Bool} {events : List Bool} (h : alternates old events = true) (hne : old ≠ new) :
    alternates new (new :: events) = true := by
  rw [alternates, ← Bool.eq_not.mpr hne, h, beq_self_eq_true, Bool.and_true]

/-- Driving the wire adds an event only on a change (R331). -/
theorem WireHistoryOk.driveWire {s : State} (h : WireHistoryOk s) (level : Bool) :
    WireHistoryOk (s.driveWire level) := by
  unfold WireHistoryOk
  rw [State.driveWire_irqLevel, State.driveWire_wire]
  split
  · next heq => exact heq ▸ h
  · next hne => exact alternates_cons h hne

/-! ### The wire between two operations (R332) -/

/-- The wire shows the line formula, and its events alternate. -/
structure State.Wired (s : State) : Prop where
  level : s.irqLevel = s.regs.line
  history : WireHistoryOk s

/-- An operation that leaves the wire alone keeps both if the line formula stays. -/
theorem State.Wired.congr {s t : State} (h : s.Wired) (hline : t.regs.line = s.regs.line)
    (hlevel : t.irqLevel = s.irqLevel) (hwire : t.out.wire = s.out.wire) : t.Wired :=
  ⟨hlevel.trans (h.level.trans hline.symm), h.history.congr hlevel hwire⟩

/-- A drive of the wire to the line formula gives both, whatever the level was. -/
theorem wired_driveWire {s : State} {level : Bool} (h : WireHistoryOk s) (hline : level = s.regs.line) :
    (s.driveWire level).Wired :=
  ⟨by rw [State.driveWire_irqLevel, State.driveWire_regs, hline], h.driveWire level⟩

theorem wired_irqEval {s : State} (h : WireHistoryOk s) : (irqEval s).Wired := wired_driveWire h rfl

/-! ### The operations -/

theorem wired_hostRead (off : Nat) (w : Width) {s : State} (h : s.Wired) : (hostRead off w s).Wired := by
  have hline : (hostRead off w s).regs.line = s.regs.line := RegFile.line_congr fun _ hr => hostRead_rd hr
  rw [hostRead_regs] at hline ⊢
  exact h.congr hline rfl rfl

/-- DRAIN clears the kick and ends, or does the ring engine's work and ends with IRQ.EVAL (R204). -/
theorem drain_ends (s : State) :
    drain s = { s with corbKick := false } ∨
    ∃ u, RingFrame { s with corbKick := false } u ∧ drain s = irqEval u := by
  rw [drain_eq]
  split
  · exact .inl rfl
  · exact .inr ⟨_, ringFrame_drainBody _, rfl⟩

theorem drain_level {s : State} (h : s.irqLevel = s.regs.line) : (drain s).irqLevel = (drain s).regs.line := by
  rcases drain_ends s with heq | ⟨u, _, heq⟩
  · exact heq ▸ h
  · rw [heq, irqEval_irqLevel, irqEval_regs]

theorem drain_history {s : State} (h : WireHistoryOk s) : WireHistoryOk (drain s) := by
  have hkick : WireHistoryOk { s with corbKick := false } := h
  rcases drain_ends s with heq | ⟨u, hframe, heq⟩
  · exact heq ▸ hkick
  · exact heq ▸ (hframe.history hkick).driveWire _

theorem wired_drain {s : State} (h : s.Wired) : (drain s).Wired := ⟨drain_level h.level, drain_history h.history⟩

/-- The drain inside a write starts where IRQ.EVAL left the wire (R87, R135). -/
theorem wired_endWrite {u : State} (h : WireHistoryOk u) : (endWrite u).Wired := by
  unfold endWrite inlineDrain
  split
  · exact wired_drain (wired_irqEval h)
  · exact wired_irqEval h

/-- The handlers of a write and the counting of its unmapped bytes leave all but the controller's own state. -/
theorem quiet_beforeEnd (off : Nat) (w : Width) (v : Word) (s : State) :
    Quiet s (noteUnmapped (pieces off w) (writePieces v (pieces off w) s)) :=
  (quiet_writePieces v _ s).trans (quiet_noteUnmapped _ _)

theorem wired_hostWrite (off : Nat) (w : Width) (v : Word) {s : State} (h : WireHistoryOk s) :
    (hostWrite off w v s).Wired := wired_endWrite ((quiet_beforeEnd off w v s).history h)

/-- A TICK drives the wire once, in the IRQ.EVAL that is its end (R272, R273, R276). -/
theorem tick_ends {n : Stream} {s t : State} (h : tick n s = .next t) :
    ∃ u, t = irqEval u ∧ u.irqLevel = s.irqLevel ∧ u.out.wire = s.out.wire := by
  obtain ⟨_, st, last, _, hlast, _, ⟨_, rfl⟩ | ⟨_, e, o, mem, buf, _, rfl⟩ | ⟨_, mem, _, rfl⟩⟩ := tick_next h
  · exact ⟨_, tickSkipped_eq n st s, rfl, rfl⟩
  · have hioc : last.ioc = lastIoc s n st := by
      unfold lastIoc
      rw [hlast]
      rfl
    refine ⟨_, hioc ▸ tickDone_eq n st e o mem buf s, ?_⟩
    cases crossesBoundary s n st with
    | true => exact ⟨rfl, rfl⟩
    | false => exact ⟨rfl, rfl⟩
  · exact ⟨_, tickAborted_eq n st mem s, rfl, rfl⟩

theorem wired_tick {n : Stream} {s t : State} (hs : WireHistoryOk s) (h : tick n s = .next t) : t.Wired := by
  obtain ⟨u, rfl, hlevel, hwire⟩ := tick_ends h
  exact wired_irqEval (hs.congr hlevel hwire)

theorem wired_sinkStep (n : Stream) (k : Nat) {s : State} (h : s.Wired) : (sinkStep n k s).Wired := by
  have honly := sinkStep_only n k s
  exact h.congr (by rw [honly.regs]) honly.irqLevel honly.wire

/-- RESTORE runs no IRQ.EVAL: the record's level is the line formula of its registers (R309). -/
theorem wired_restore {r : Snapshot} (hr : r.irqLevel = r.regs.line) {s : State} (h : WireHistoryOk s) :
    (restore r s).Wired := by
  rw [restore_eq]
  exact wired_driveWire ((quiet_restored r s).history h) (by rw [restored_regs, hr])

theorem wired_poweroff {s : State} (h : s.Wired) : (poweroff s).Wired := by
  have hregs : (poweroff s).regs = s.regs := disableAll_regs s
  have hquiet : Quiet s (poweroff s) := quiet_disableAll s
  exact h.congr (by rw [hregs]) hquiet.irqLevel hquiet.wire

/-- The line formula of the reset values is low, and PORESET lowers the wire (R360). -/
theorem wired_poreset {s : State} (h : WireHistoryOk s) : (poreset s).Wired := by
  obtain ⟨_, _, _, _, hlevel, _⟩ := poreset_fields s
  refine ⟨by rw [hlevel, poreset_regs, resetRegs_line], (h.driveWire false).congr ?_ ?_⟩
  · rw [hlevel, State.driveWire_irqLevel]
  · rw [poreset_wire, State.driveWire_wire]

/-! ### Every operation -/

theorem wired_exec {i : Instr} {s t : State} (hs : s.Wired) (hsaved : ∀ r, s.saved = some r → r.irqLevel = r.regs.line)
    (h : exec i s = .next t) : t.Wired := by
  obtain ⟨off, w, ht⟩ | ⟨off, w, v, ht⟩ | ⟨_, ht⟩ | ⟨n, htick⟩ | ⟨n, k, ht⟩ | ⟨d, _, ht⟩ | ht |
    ⟨r, hr, ht⟩ | ht | ht := exec_next h
  · exact ht ▸ wired_hostRead off w hs
  · exact ht ▸ wired_hostWrite off w v hs.history
  · exact ht ▸ wired_drain hs
  · exact wired_tick hs.history htick
  · exact ht ▸ wired_sinkStep n k hs
  · exact ht ▸ hs.congr rfl rfl rfl
  · exact ht ▸ hs.congr rfl rfl rfl
  · exact ht ▸ wired_restore (hsaved r hr) hs.history
  · exact ht ▸ wired_poweroff hs
  · exact ht ▸ wired_poreset hs.history

/-- Settles O56: an operation that changes what the line formula reads ends with a drive of the wire to it, the others
leave formula and wire, and the saved record takes and gives a level that is the formula of its registers. -/
theorem wireInvariant : Obligations.WireInvariant := by
  intro s t ⟨hlevel, hsaved⟩ hhistory h
  obtain ⟨x, rest, i, _, _, hexec⟩ := step_next h
  have hwired : State.Wired { s with pending := rest } := ⟨hlevel, hhistory⟩
  have ht := wired_exec hwired hsaved hexec
  exact ⟨⟨ht.level, saved_keeps (P := fun r => r.irqLevel = r.regs.line) hexec hlevel hsaved⟩, ht.history⟩

end Sys2Proof.Machine
end

section
/-! Reads and writes complete (60_exceptions.md R326), and what the end of a write leaves (40_mmio_dispatch.md R135, R143;
20_memory.md R77, R87). -/

namespace Sys2Proof.Machine

/-- From `s` to `t` the response ring stood where it stands, of guest memory only that ring was written, and of what the
outside was shown only the wire changed. -/
structure WriteEnd (s t : State) : Prop where
  ring : ∀ a, inResponseRing t a ↔ inResponseRing s a
  outside : ∀ a, ¬ inResponseRing s a → t.mem.byte a = s.mem.byte a
  out : t.out = { s.out with wire := t.out.wire }

theorem WriteEnd.trans {s t u : State} (h : WriteEnd s t) (k : WriteEnd t u) : WriteEnd s u where
  ring a := (k.ring a).trans (h.ring a)
  outside a ha := (k.outside a (mt (h.ring a).mp ha)).trans (h.outside a ha)
  out := k.out.trans (by rw [h.out])

theorem writeEnd_irqEval (s : State) : WriteEnd s (irqEval s) := by
  rw [irqEval_eq]
  exact ⟨fun _ => Iff.rfl, fun _ _ => rfl, rfl⟩

theorem writeEnd_drain (s : State) : WriteEnd s (drain s) := by
  have hkick : WriteEnd s { s with corbKick := false } := ⟨fun _ => Iff.rfl, fun _ _ => rfl, rfl⟩
  rcases drain_ends s with heq | ⟨u, hframe, heq⟩
  · exact heq ▸ hkick
  · have hring : WriteEnd { s with corbKick := false } u :=
      ⟨hframe.ring.inResponseRing_iff, hframe.outside, by rw [hframe.ring.out]⟩
    exact heq ▸ (hkick.trans hring).trans (writeEnd_irqEval u)

theorem writeEnd_endWrite (u : State) : WriteEnd u (endWrite u) := by
  unfold endWrite inlineDrain
  split
  · exact (writeEnd_irqEval u).trans (writeEnd_drain _)
  · exact writeEnd_irqEval u

/-- A write leaves the wire at the line formula of the state it leaves, whatever it found (R135, R143). -/
theorem endWrite_level (u : State) : (endWrite u).irqLevel = (endWrite u).regs.line := by
  have heval : (irqEval u).irqLevel = (irqEval u).regs.line := by rw [irqEval_irqLevel, irqEval_regs]
  unfold endWrite inlineDrain
  split
  · exact drain_level heval
  · exact heval

/-- Settles O15: every read and write is a bus transaction that returns; a write's handlers are quiet, and its end is
IRQ.EVAL and perhaps a drain. -/
theorem transactionsComplete : Obligations.TransactionsComplete := by
  refine ⟨fun i off w s hread => ⟨_, exec_readsAt hread s⟩, fun i off w v s hwrite => ?_⟩
  have hquiet := quiet_beforeEnd off w v s
  refine ⟨_, exec_writesAt hwrite s, ?_⟩
  unfold hostWrite
  generalize noteUnmapped (pieces off w) (writePieces v (pieces off w) s) = u at hquiet ⊢
  have hend := writeEnd_endWrite u
  refine ⟨endWrite_level u, fun hinline => ?_, fun a ha => ?_, ?_, ?_, ?_⟩
  · rw [endWrite_of_no_drain (.inr (hquiet.cfg ▸ hinline)), irqEval_irqLevel, irqEval_mem, irqEval_eq, hquiet.irqLevel,
      hquiet.wire]
    exact ⟨hquiet.mem, rfl⟩
  · rw [hend.outside a (mt (hend.ring a).mpr ha), hquiet.mem]
  · rw [hend.out, ← hquiet.readData]
  · rw [hend.out, ← hquiet.sinkMoved]
  · rw [hend.out, ← hquiet.rendered]

end Sys2Proof.Machine
end

section
/-! PORESET as one update (70_reset_and_hazards.md R360 to R362): the reset state, with the parameters, the time base,
guest memory and what belongs to the outside as they were. -/

namespace Sys2Proof.Machine

/-- Lowering the wire as one update: an event only where it was high (R331). -/
theorem State.driveWire_low (s : State) :
    s.driveWire false =
      { s with
        irqLevel := false,
        out := { s.out with wire := if s.irqLevel then false :: s.out.wire else s.out.wire } } := by
  unfold State.driveWire
  cases hlevel : s.irqLevel with
  | false => rw [if_pos rfl, if_neg Bool.false_ne_true, ← hlevel]
  | true => rw [if_neg Bool.false_ne_true.symm, if_pos rfl]

/-- Settles O54: the stops of the sinks are the one trace that SD.DISABLE leaves, since PORESET overwrites engines and
counters, and the wire falls where it was high. -/
theorem powerOnReset : Obligations.PowerOnReset := by
  intro s
  have hexec : exec .poreset s = .next (poreset s) := rfl
  rw [hexec, poreset, disableAll_eq s, State.driveWire_low]
  rfl

end Sys2Proof.Machine
end

section
/-! The controller held in reset (41_global_registers.md R156 to R159, 70_reset_and_hazards.md R363): what it then is,
and that each operation leaves it so, leaves it out of reset, or puts it into reset with everything at its reset
value. -/

namespace Sys2Proof.Machine

/-- Every register holds its reset value, and neither a DRAIN nor a TICK is enabled (R363). -/
structure State.AtRest (s : State) : Prop where
  regs : ∀ r, s.regs.rd r = r.resetVal
  kick : s.corbKick = false
  idle : ∀ n, (s.dmaOf n).running = false

/-- While held in reset the controller is at rest. -/
def State.Held (s : State) : Prop := s.regs.crst = false → s.AtRest

/-- The invariant of the statement, as one about the state and one about the saved record. -/
theorem heldOk_iff (s : State) :
    HeldOk s ↔ s.Held ∧ ∀ r, s.saved = some r → r.regs.crst = false → ∀ k, r.regs.rd k = k.resetVal := by
  exact and_congr_left fun _ => forall_congr' fun _ =>
    ⟨fun ⟨hregs, hkick, hidle⟩ => ⟨hregs, hkick, hidle⟩, fun ⟨hregs, hkick, hidle⟩ => ⟨hregs, hkick, hidle⟩⟩

/-- Out of reset nothing is asked. -/
theorem State.Held.of_awake {s : State} (h : s.regs.crst = true) : s.Held := fun hcrst =>
  absurd (hcrst.symm.trans h) Bool.false_ne_true

/-- An operation that leaves CRST alone has to keep the controller at rest, no more. -/
theorem State.Held.step {s t : State} (h : s.Held) (hcrst : t.regs.crst = s.regs.crst) (hrest : s.AtRest → t.AtRest) :
    t.Held := fun ht => hrest (h (hcrst.symm.trans ht))

theorem State.AtRest.congr {s t : State} (h : s.AtRest) (hregs : t.regs = s.regs) (hkick : t.corbKick = s.corbKick)
    (hidle : ∀ n, (s.dmaOf n).running = false → (t.dmaOf n).running = false) : t.AtRest :=
  ⟨fun r => by rw [hregs, h.regs], hkick.trans h.kick, fun n => hidle n (h.idle n)⟩

theorem State.Held.congr {s t : State} (h : s.Held) (hregs : t.regs = s.regs) (hkick : t.corbKick = s.corbKick)
    (hidle : ∀ n, (s.dmaOf n).running = false → (t.dmaOf n).running = false) : t.Held :=
  h.step (by rw [hregs]) fun hrest => hrest.congr hregs hkick hidle

/-- A change outside the registers, the kick and the engines. -/
theorem State.Held.of_eq {s t : State} (h : s.Held) (hregs : t.regs = s.regs) (hkick : t.corbKick = s.corbKick)
    (hdma : t.dma = s.dma) : t.Held :=
  h.congr hregs hkick fun n hn => by rwa [State.dmaOf_congr hdma n]

/-! ### Writes (R135, R156, R159) -/

theorem atRest_ctrlReset (s : State) : (ctrlReset s).AtRest := by
  obtain ⟨_, _, _, hkick⟩ := ctrlReset_fields s
  exact ⟨fun r => by rw [ctrlReset_regs, resetRegs_rd], hkick, fun n => by rw [ctrlReset_dmaOf]; rfl⟩

theorem leaveReset_crst (s : State) : (leaveReset s).regs.crst = s.regs.crst := by
  unfold RegFile.crst
  rw [leaveReset_eq, RegFile.rd_put_of_ne _ (by decide), RegFile.rd_put_of_ne _ (by decide)]

/-- W_GCTL keeps CRST where it stores a 1, and puts the controller at rest where it stores a 0 over a 1 (R156). -/
theorem held_wGctl {s : State} (h : s.Held) (val : Word) : (wGctl val s).Held := by
  have hstored (hval : val.getLsbD 0 = true) : (s.setReg (.glob .gctl) (val &&& 0x103)).regs.crst = true :=
    (crst_putGctl _ _).trans ((getLsbD_masked val 0x103 0 rfl).trans hval)
  cases hval : val.getLsbD 0 <;> cases hcrst : s.regs.crst
  · rwa [wGctl_stay hcrst hval]
  · exact wGctl_enter hcrst hval ▸ fun _ => atRest_ctrlReset s
  · exact wGctl_leave hcrst hval ▸ .of_awake ((leaveReset_crst _).trans (hstored hval))
  · exact wGctl_store hcrst hval ▸ .of_awake (hstored hval)

theorem held_noteReserved {s : State} (h : s.Held) (r : Reg) (x : Word) : (noteReserved r x s).Held := by
  rw [noteReserved_eq]
  exact h.of_eq rfl rfl rfl

/-- A piece of GCTL runs its handler, any other piece is dropped in reset and leaves CRST alone out of reset. -/
theorem held_writePiece (v : Word) (s : State) (p : Piece) (h : s.Held) : (writePiece v s p).Held := by
  obtain ⟨reg, lo, hi, tlo⟩ := p
  cases reg with
  | none => exact h
  | some r =>
    by_cases hr : r = .glob .gctl
    · subst hr
      rw [writePiece_reg (.inr rfl)]
      exact held_wGctl (held_noteReserved h _ _) _
    · cases hcrst : s.regs.crst with
      | false =>
        rw [writePiece_held hcrst hr]
        exact h.of_eq rfl rfl rfl
      | true =>
        rw [writePiece_reg (.inl hcrst)]
        exact .of_awake ((crst_writeHandler hr _ _).trans (by rw [noteReserved_regs, hcrst]))

/-- At rest the ring engine is stopped: a DRAIN does nothing (R204). -/
theorem drain_of_atRest {s : State} (h : s.AtRest) : drain s = { s with corbKick := false } := by
  have hrun : s.regs.corbRun = false := by
    unfold RegFile.corbRun
    rw [h.regs]
    rfl
  rw [drain_eq, if_pos (.inl hrun)]

theorem held_drain {s : State} (h : s.Held) : (drain s).Held :=
  h.step (noStream_drain s).crst fun hrest => drain_of_atRest hrest ▸ ⟨hrest.regs, rfl, hrest.idle⟩

theorem held_endWrite {s : State} (h : s.Held) : (endWrite s).Held := by
  have heval : (irqEval s).Held := h.of_eq (irqEval_regs s) (irqEval_corbKick s) (irqEval_dma s)
  unfold endWrite inlineDrain
  split
  · exact held_drain heval
  · exact heval

theorem held_hostWrite (off : Nat) (w : Width) (v : Word) {s : State} (h : s.Held) : (hostWrite off w v s).Held := by
  have hpieces : (writePieces v (pieces off w) s).Held := writePieces_keeps held_writePiece v (pieces off w) s h
  refine held_endWrite ?_
  rw [noteUnmapped_eq]
  exact hpieces.of_eq rfl rfl rfl

/-! ### The other operations -/

/-- At rest no engine is armed, so that the wall clock is held (R340). -/
theorem hostRead_regs_of_atRest {s : State} (h : s.AtRest) (off : Nat) (w : Width) :
    (hostRead off w s).regs = s.regs := by
  rw [hostRead_eq]
  unfold readState
  split
  · rw [walclkEval_idle h.idle]
  · rfl

theorem held_hostRead (off : Nat) (w : Width) {s : State} (h : s.Held) : (hostRead off w s).Held := by
  refine h.step (noStream_hostRead off w s).crst fun hrest =>
    hrest.congr (hostRead_regs_of_atRest hrest off w) ?_ fun n hn => ?_
  · rw [hostRead_regs]
  · rwa [State.dmaOf_congr (noStream_hostRead off w s).dma n]

/-- A TICK needs an armed engine (R271), of which there is none at rest. -/
theorem held_tick {n : Stream} {s t : State} (hs : s.Held) (h : tick n s = .next t) : t.Held := by
  obtain ⟨honly, _⟩ := tick_only h
  obtain ⟨henabled, _⟩ := tick_next h
  obtain ⟨harmed, _⟩ := Bool.and_eq_true_iff.mp henabled
  have hcrst : t.regs.crst = s.regs.crst := by
    unfold RegFile.crst
    rw [honly.regs _ (by simp) (by simp)]
  exact hs.step hcrst fun hrest => absurd ((hrest.idle n).symm.trans harmed) Bool.false_ne_true

theorem held_sinkStep (n : Stream) (k : Nat) {s : State} (h : s.Held) : (sinkStep n k s).Held := by
  have honly := sinkStep_only n k s
  refine h.congr honly.regs honly.corbKick fun m hm => ?_
  by_cases hn : m = n
  · subst hn
    rw [honly.ring]
    exact hm
  · rwa [honly.dma m hn]

/-- RESTORE takes the record's registers; in reset it kicks no drain and arms no engine (R309). -/
theorem held_restore {r : Snapshot} (hr : r.regs.crst = false → ∀ k, r.regs.rd k = k.resetVal) (s : State) :
    (restore r s).Held := by
  have hregs : (restore r s).regs = r.regs := by rw [restore_eq, State.driveWire_regs, restored_regs]
  intro hheld
  have hcrst : r.regs.crst = false := hregs ▸ hheld
  obtain ⟨_, _, hkick, _⟩ := restored_fields r s
  refine ⟨fun k => by rw [hregs, hr hcrst], ?_, fun n => ?_⟩
  · rw [restore_eq, State.driveWire_corbKick, hkick, hcrst, Bool.false_and]
  · obtain ⟨u, hu, _, hdma⟩ := restored_dmaOf r s n
    have hstopped : ¬ WasRunning r n := fun ⟨hawake, _⟩ => Bool.false_ne_true (hcrst.symm.trans hawake)
    rw [restore_eq, State.dmaOf_congr (State.driveWire_dma _ _) n, hdma, restoreStream_of_not_running hu hstopped]
    rfl

theorem held_poweroff {s : State} (h : s.Held) : (poweroff s).Held := by
  obtain ⟨_, _, _, hkick, _⟩ := disableAll_fields s
  refine h.congr (disableAll_regs s) hkick fun n _ => ?_
  rw [poweroff, disableAll_dmaOf]
  exact Dma.disabled_running _

theorem held_poreset (s : State) : (poreset s).Held := by
  obtain ⟨_, _, _, hkick, _⟩ := poreset_fields s
  exact fun _ => ⟨fun r => by rw [poreset_regs, resetRegs_rd], hkick, fun n => by rw [poreset_dmaOf]; rfl⟩

/-! ### Every operation -/

theorem held_exec {i : Instr} {s t : State} (hs : s.Held)
    (hsaved : ∀ r, s.saved = some r → r.regs.crst = false → ∀ k, r.regs.rd k = k.resetVal)
    (h : exec i s = .next t) : t.Held := by
  obtain ⟨off, w, ht⟩ | ⟨off, w, v, ht⟩ | ⟨_, ht⟩ | ⟨n, htick⟩ | ⟨n, k, ht⟩ | ⟨d, _, ht⟩ | ht |
    ⟨r, hr, ht⟩ | ht | ht := exec_next h
  · exact ht ▸ held_hostRead off w hs
  · exact ht ▸ held_hostWrite off w v hs
  · exact ht ▸ held_drain hs
  · exact held_tick hs htick
  · exact ht ▸ held_sinkStep n k hs
  · exact ht ▸ hs.of_eq rfl rfl rfl
  · exact ht ▸ hs.of_eq rfl rfl rfl
  · exact ht ▸ held_restore (hsaved r hr) s
  · exact ht ▸ held_poweroff hs
  · exact ht ▸ held_poreset s

/-- Settles O59: an operation that finds the controller at rest leaves it so or takes it out of reset, one that takes it
into reset puts everything at its reset value, and a record held in reset gives back reset values. -/
theorem heldInvariant : Obligations.HeldInvariant := by
  intro s t hs h
  obtain ⟨hheld, hsaved⟩ := (heldOk_iff s).mp hs
  obtain ⟨x, rest, i, _, _, hexec⟩ := step_next h
  have hheld' : State.Held { s with pending := rest } := hheld.of_eq rfl rfl rfl
  exact (heldOk_iff t).mpr ⟨held_exec hheld' hsaved hexec,
    saved_keeps (P := fun r => r.regs.crst = false → ∀ k, r.regs.rd k = k.resetVal) hexec
      (fun hcrst => (hheld hcrst).regs) hsaved⟩

end Sys2Proof.Machine
end
